-- ==== Sys2Proof/Word.lean ====
section
/-! DEFINITION. The two word types of the block (rule R8) and their plainest arithmetic: the byte of the
data bus and of the 8-bit registers, the 16-bit word of pc, sp, the register pairs and the addresses. -/

namespace Sys2Proof

/-- A byte: an 8-bit register, a memory byte, an immediate n8 or e8 (rules R8, R9). -/
abbrev Byte := BitVec 8

/-- A word: pc, sp, a register pair, an address or an immediate n16 (rules R8, R9). -/
abbrev Word := BitVec 16

/-- The 16-bit concatenation of a high and a low byte (rule R9). -/
def Word.ofBytes (hi lo : Byte) : Word := hi ++ lo

/-- Bits 15..8 of a word (rule R9). -/
def Word.hi (w : Word) : Byte := w.extractLsb' 8 8

/-- Bits 7..0 of a word (rule R9). -/
def Word.lo (w : Word) : Byte := w.extractLsb' 0 8

end Sys2Proof
end

