-- ==== Sys2Proof/Syntax.lean ====
section
/-! DEFINITION. The instructions of the block: one constructor for each row of spec/opcode_table.json, 256 rows of
the primary table (rule R340) and 256 of the secondary, 0xCB-prefixed one (rule R341), and the operand names the
meanings share. An n8, e8 or n16 operand is the constructor's argument; a register operand is part of its name. -/

namespace Sys2Proof

/-- The 8-bit registers of the 3-bit register field (rule R330; its value 6 is [hl], no register). -/
inductive Reg8 where
  | b | c | d | e | h | l | a
  deriving DecidableEq, Repr

/-- The pairs of the 2-bit pair field rp (rule R331). -/
inductive Reg16 where
  | bc | de | hl | sp
  deriving DecidableEq, Repr

/-- The pairs of the 2-bit pair field rp2 of PUSH and POP (rule R332). -/
inductive StackPair where
  | bc | de | hl | af
  deriving DecidableEq, Repr

/-- The branch conditions (rule R333). -/
inductive Cond where
  | nz | z | nc | c
  deriving DecidableEq, Repr

/-- The eight 8-bit accumulator operations, in the order of field y of rule R321. -/
inductive AluOp where
  | add | adc | sub | sbc | and | xor | or | cp
  deriving DecidableEq, Repr

/-- The eight secondary-table rotates and shifts, in the order of field y of rule R322. -/
inductive RotOp where
  | rlc | rrc | rl | rr | sla | sra | swap | srl
  deriving DecidableEq, Repr

/-- The operand of a secondary-table instruction, field z of rule R322: a register or the byte at hl. -/
inductive CbOperand where
  | reg (r : Reg8)
  | atHl
  deriving DecidableEq, Repr

/-- The instructions: the 245 defined primary rows, the 256 secondary rows, then the 11 ILLEGAL rows, each in the
order of the opcode table. -/
inductive Instr where
  /-- NOP: 0x00 (R900). -/
  | nop
  /-- LD BC,n16: 0x01 (R530). -/
  | ldBcN16 (n16 : Word)
  /-- LD [BC],A: 0x02 (R507). -/
  | ldAtBcA
  /-- INC BC: 0x03 (R600). -/
  | incBc
  /-- INC B: 0x04 (R440). -/
  | incB
  /-- DEC B: 0x05 (R442). -/
  | decB
  /-- LD B,n8: 0x06 (R501). -/
  | ldBN8 (n8 : Byte)
  /-- RLCA: 0x07 (R800). -/
  | rlca
  /-- LD [n16],SP: 0x08 (R531). -/
  | ldAtN16Sp (n16 : Word)
  /-- ADD HL,BC: 0x09 (R602). -/
  | addHlBc
  /-- LD A,[BC]: 0x0A (R505). -/
  | ldAAtBc
  /-- DEC BC: 0x0B (R601). -/
  | decBc
  /-- INC C: 0x0C (R440). -/
  | incC
  /-- DEC C: 0x0D (R442). -/
  | decC
  /-- LD C,n8: 0x0E (R501). -/
  | ldCN8 (n8 : Byte)
  /-- RRCA: 0x0F (R801). -/
  | rrca
  /-- STOP: 0x10 (R915). -/
  | stop (n8 : Byte)
  /-- LD DE,n16: 0x11 (R530). -/
  | ldDeN16 (n16 : Word)
  /-- LD [DE],A: 0x12 (R508). -/
  | ldAtDeA
  /-- INC DE: 0x13 (R600). -/
  | incDe
  /-- INC D: 0x14 (R440). -/
  | incD
  /-- DEC D: 0x15 (R442). -/
  | decD
  /-- LD D,n8: 0x16 (R501). -/
  | ldDN8 (n8 : Byte)
  /-- RLA: 0x17 (R802). -/
  | rla
  /-- JR e8: 0x18 (R710). -/
  | jrE8 (e8 : Byte)
  /-- ADD HL,DE: 0x19 (R602). -/
  | addHlDe
  /-- LD A,[DE]: 0x1A (R506). -/
  | ldAAtDe
  /-- DEC DE: 0x1B (R601). -/
  | decDe
  /-- INC E: 0x1C (R440). -/
  | incE
  /-- DEC E: 0x1D (R442). -/
  | decE
  /-- LD E,n8: 0x1E (R501). -/
  | ldEN8 (n8 : Byte)
  /-- RRA: 0x1F (R803). -/
  | rra
  /-- JR NZ,e8: 0x20 (R711). -/
  | jrNzE8 (e8 : Byte)
  /-- LD HL,n16: 0x21 (R530). -/
  | ldHlN16 (n16 : Word)
  /-- LD [HL+],A: 0x22 (R517). -/
  | ldAtHlIncA
  /-- INC HL: 0x23 (R600). -/
  | incHl
  /-- INC H: 0x24 (R440). -/
  | incH
  /-- DEC H: 0x25 (R442). -/
  | decH
  /-- LD H,n8: 0x26 (R501). -/
  | ldHN8 (n8 : Byte)
  /-- DAA: 0x27 (R450). -/
  | daa
  /-- JR Z,e8: 0x28 (R711). -/
  | jrZE8 (e8 : Byte)
  /-- ADD HL,HL: 0x29 (R602). -/
  | addHlHl
  /-- LD A,[HL+]: 0x2A (R515). -/
  | ldAAtHlInc
  /-- DEC HL: 0x2B (R601). -/
  | decHl
  /-- INC L: 0x2C (R440). -/
  | incL
  /-- DEC L: 0x2D (R442). -/
  | decL
  /-- LD L,n8: 0x2E (R501). -/
  | ldLN8 (n8 : Byte)
  /-- CPL: 0x2F (R451). -/
  | cpl
  /-- JR NC,e8: 0x30 (R711). -/
  | jrNcE8 (e8 : Byte)
  /-- LD SP,n16: 0x31 (R530). -/
  | ldSpN16 (n16 : Word)
  /-- LD [HL-],A: 0x32 (R518). -/
  | ldAtHlDecA
  /-- INC SP: 0x33 (R600). -/
  | incSp
  /-- INC [HL]: 0x34 (R441). -/
  | incAtHl
  /-- DEC [HL]: 0x35 (R443). -/
  | decAtHl
  /-- LD [HL],n8: 0x36 (R504). -/
  | ldAtHlN8 (n8 : Byte)
  /-- SCF: 0x37 (R452). -/
  | scf
  /-- JR C,e8: 0x38 (R711). -/
  | jrCE8 (e8 : Byte)
  /-- ADD HL,SP: 0x39 (R602). -/
  | addHlSp
  /-- LD A,[HL-]: 0x3A (R516). -/
  | ldAAtHlDec
  /-- DEC SP: 0x3B (R601). -/
  | decSp
  /-- INC A: 0x3C (R440). -/
  | incA
  /-- DEC A: 0x3D (R442). -/
  | decA
  /-- LD A,n8: 0x3E (R501). -/
  | ldAN8 (n8 : Byte)
  /-- CCF: 0x3F (R453). -/
  | ccf
  /-- LD B,B: 0x40 (R500). -/
  | ldBB
  /-- LD B,C: 0x41 (R500). -/
  | ldBC
  /-- LD B,D: 0x42 (R500). -/
  | ldBD
  /-- LD B,E: 0x43 (R500). -/
  | ldBE
  /-- LD B,H: 0x44 (R500). -/
  | ldBH
  /-- LD B,L: 0x45 (R500). -/
  | ldBL
  /-- LD B,[HL]: 0x46 (R502). -/
  | ldBAtHl
  /-- LD B,A: 0x47 (R500). -/
  | ldBA
  /-- LD C,B: 0x48 (R500). -/
  | ldCB
  /-- LD C,C: 0x49 (R500). -/
  | ldCC
  /-- LD C,D: 0x4A (R500). -/
  | ldCD
  /-- LD C,E: 0x4B (R500). -/
  | ldCE
  /-- LD C,H: 0x4C (R500). -/
  | ldCH
  /-- LD C,L: 0x4D (R500). -/
  | ldCL
  /-- LD C,[HL]: 0x4E (R502). -/
  | ldCAtHl
  /-- LD C,A: 0x4F (R500). -/
  | ldCA
  /-- LD D,B: 0x50 (R500). -/
  | ldDB
  /-- LD D,C: 0x51 (R500). -/
  | ldDC
  /-- LD D,D: 0x52 (R500). -/
  | ldDD
  /-- LD D,E: 0x53 (R500). -/
  | ldDE
  /-- LD D,H: 0x54 (R500). -/
  | ldDH
  /-- LD D,L: 0x55 (R500). -/
  | ldDL
  /-- LD D,[HL]: 0x56 (R502). -/
  | ldDAtHl
  /-- LD D,A: 0x57 (R500). -/
  | ldDA
  /-- LD E,B: 0x58 (R500). -/
  | ldEB
  /-- LD E,C: 0x59 (R500). -/
  | ldEC
  /-- LD E,D: 0x5A (R500). -/
  | ldED
  /-- LD E,E: 0x5B (R500). -/
  | ldEE
  /-- LD E,H: 0x5C (R500). -/
  | ldEH
  /-- LD E,L: 0x5D (R500). -/
  | ldEL
  /-- LD E,[HL]: 0x5E (R502). -/
  | ldEAtHl
  /-- LD E,A: 0x5F (R500). -/
  | ldEA
  /-- LD H,B: 0x60 (R500). -/
  | ldHB
  /-- LD H,C: 0x61 (R500). -/
  | ldHC
  /-- LD H,D: 0x62 (R500). -/
  | ldHD
  /-- LD H,E: 0x63 (R500). -/
  | ldHE
  /-- LD H,H: 0x64 (R500). -/
  | ldHH
  /-- LD H,L: 0x65 (R500). -/
  | ldHL
  /-- LD H,[HL]: 0x66 (R502). -/
  | ldHAtHl
  /-- LD H,A: 0x67 (R500). -/
  | ldHA
  /-- LD L,B: 0x68 (R500). -/
  | ldLB
  /-- LD L,C: 0x69 (R500). -/
  | ldLC
  /-- LD L,D: 0x6A (R500). -/
  | ldLD
  /-- LD L,E: 0x6B (R500). -/
  | ldLE
  /-- LD L,H: 0x6C (R500). -/
  | ldLH
  /-- LD L,L: 0x6D (R500). -/
  | ldLL
  /-- LD L,[HL]: 0x6E (R502). -/
  | ldLAtHl
  /-- LD L,A: 0x6F (R500). -/
  | ldLA
  /-- LD [HL],B: 0x70 (R503). -/
  | ldAtHlB
  /-- LD [HL],C: 0x71 (R503). -/
  | ldAtHlC
  /-- LD [HL],D: 0x72 (R503). -/
  | ldAtHlD
  /-- LD [HL],E: 0x73 (R503). -/
  | ldAtHlE
  /-- LD [HL],H: 0x74 (R503). -/
  | ldAtHlH
  /-- LD [HL],L: 0x75 (R503). -/
  | ldAtHlL
  /-- HALT: 0x76 (R910). -/
  | halt
  /-- LD [HL],A: 0x77 (R503). -/
  | ldAtHlA
  /-- LD A,B: 0x78 (R500). -/
  | ldAB
  /-- LD A,C: 0x79 (R500). -/
  | ldAC
  /-- LD A,D: 0x7A (R500). -/
  | ldAD
  /-- LD A,E: 0x7B (R500). -/
  | ldAE
  /-- LD A,H: 0x7C (R500). -/
  | ldAH
  /-- LD A,L: 0x7D (R500). -/
  | ldAL
  /-- LD A,[HL]: 0x7E (R502). -/
  | ldAAtHl
  /-- LD A,A: 0x7F (R500). -/
  | ldAA
  /-- ADD A,B: 0x80 (R410). -/
  | addAB
  /-- ADD A,C: 0x81 (R410). -/
  | addAC
  /-- ADD A,D: 0x82 (R410). -/
  | addAD
  /-- ADD A,E: 0x83 (R410). -/
  | addAE
  /-- ADD A,H: 0x84 (R410). -/
  | addAH
  /-- ADD A,L: 0x85 (R410). -/
  | addAL
  /-- ADD A,[HL]: 0x86 (R411). -/
  | addAAtHl
  /-- ADD A,A: 0x87 (R410). -/
  | addAA
  /-- ADC A,B: 0x88 (R413). -/
  | adcAB
  /-- ADC A,C: 0x89 (R413). -/
  | adcAC
  /-- ADC A,D: 0x8A (R413). -/
  | adcAD
  /-- ADC A,E: 0x8B (R413). -/
  | adcAE
  /-- ADC A,H: 0x8C (R413). -/
  | adcAH
  /-- ADC A,L: 0x8D (R413). -/
  | adcAL
  /-- ADC A,[HL]: 0x8E (R414). -/
  | adcAAtHl
  /-- ADC A,A: 0x8F (R413). -/
  | adcAA
  /-- SUB A,B: 0x90 (R416). -/
  | subAB
  /-- SUB A,C: 0x91 (R416). -/
  | subAC
  /-- SUB A,D: 0x92 (R416). -/
  | subAD
  /-- SUB A,E: 0x93 (R416). -/
  | subAE
  /-- SUB A,H: 0x94 (R416). -/
  | subAH
  /-- SUB A,L: 0x95 (R416). -/
  | subAL
  /-- SUB A,[HL]: 0x96 (R417). -/
  | subAAtHl
  /-- SUB A,A: 0x97 (R416). -/
  | subAA
  /-- SBC A,B: 0x98 (R419). -/
  | sbcAB
  /-- SBC A,C: 0x99 (R419). -/
  | sbcAC
  /-- SBC A,D: 0x9A (R419). -/
  | sbcAD
  /-- SBC A,E: 0x9B (R419). -/
  | sbcAE
  /-- SBC A,H: 0x9C (R419). -/
  | sbcAH
  /-- SBC A,L: 0x9D (R419). -/
  | sbcAL
  /-- SBC A,[HL]: 0x9E (R420). -/
  | sbcAAtHl
  /-- SBC A,A: 0x9F (R419). -/
  | sbcAA
  /-- AND A,B: 0xA0 (R422). -/
  | andAB
  /-- AND A,C: 0xA1 (R422). -/
  | andAC
  /-- AND A,D: 0xA2 (R422). -/
  | andAD
  /-- AND A,E: 0xA3 (R422). -/
  | andAE
  /-- AND A,H: 0xA4 (R422). -/
  | andAH
  /-- AND A,L: 0xA5 (R422). -/
  | andAL
  /-- AND A,[HL]: 0xA6 (R423). -/
  | andAAtHl
  /-- AND A,A: 0xA7 (R422). -/
  | andAA
  /-- XOR A,B: 0xA8 (R425). -/
  | xorAB
  /-- XOR A,C: 0xA9 (R425). -/
  | xorAC
  /-- XOR A,D: 0xAA (R425). -/
  | xorAD
  /-- XOR A,E: 0xAB (R425). -/
  | xorAE
  /-- XOR A,H: 0xAC (R425). -/
  | xorAH
  /-- XOR A,L: 0xAD (R425). -/
  | xorAL
  /-- XOR A,[HL]: 0xAE (R426). -/
  | xorAAtHl
  /-- XOR A,A: 0xAF (R425). -/
  | xorAA
  /-- OR A,B: 0xB0 (R428). -/
  | orAB
  /-- OR A,C: 0xB1 (R428). -/
  | orAC
  /-- OR A,D: 0xB2 (R428). -/
  | orAD
  /-- OR A,E: 0xB3 (R428). -/
  | orAE
  /-- OR A,H: 0xB4 (R428). -/
  | orAH
  /-- OR A,L: 0xB5 (R428). -/
  | orAL
  /-- OR A,[HL]: 0xB6 (R429). -/
  | orAAtHl
  /-- OR A,A: 0xB7 (R428). -/
  | orAA
  /-- CP A,B: 0xB8 (R431). -/
  | cpAB
  /-- CP A,C: 0xB9 (R431). -/
  | cpAC
  /-- CP A,D: 0xBA (R431). -/
  | cpAD
  /-- CP A,E: 0xBB (R431). -/
  | cpAE
  /-- CP A,H: 0xBC (R431). -/
  | cpAH
  /-- CP A,L: 0xBD (R431). -/
  | cpAL
  /-- CP A,[HL]: 0xBE (R432). -/
  | cpAAtHl
  /-- CP A,A: 0xBF (R431). -/
  | cpAA
  /-- RET NZ: 0xC0 (R723). -/
  | retNz
  /-- POP BC: 0xC1 (R541). -/
  | popBc
  /-- JP NZ,n16: 0xC2 (R701). -/
  | jpNzN16 (n16 : Word)
  /-- JP n16: 0xC3 (R700). -/
  | jpN16 (n16 : Word)
  /-- CALL NZ,n16: 0xC4 (R721). -/
  | callNzN16 (n16 : Word)
  /-- PUSH BC: 0xC5 (R540). -/
  | pushBc
  /-- ADD A,n8: 0xC6 (R412). -/
  | addAN8 (n8 : Byte)
  /-- RST $00: 0xC7 (R730). -/
  | rst00
  /-- RET Z: 0xC8 (R723). -/
  | retZ
  /-- RET: 0xC9 (R722). -/
  | ret
  /-- JP Z,n16: 0xCA (R701). -/
  | jpZN16 (n16 : Word)
  /-- PREFIX CB: 0xCB (R901). -/
  | prefixCb (op2 : Byte)
  /-- CALL Z,n16: 0xCC (R721). -/
  | callZN16 (n16 : Word)
  /-- CALL n16: 0xCD (R720). -/
  | callN16 (n16 : Word)
  /-- ADC A,n8: 0xCE (R415). -/
  | adcAN8 (n8 : Byte)
  /-- RST $08: 0xCF (R730). -/
  | rst08
  /-- RET NC: 0xD0 (R723). -/
  | retNc
  /-- POP DE: 0xD1 (R541). -/
  | popDe
  /-- JP NC,n16: 0xD2 (R701). -/
  | jpNcN16 (n16 : Word)
  /-- CALL NC,n16: 0xD4 (R721). -/
  | callNcN16 (n16 : Word)
  /-- PUSH DE: 0xD5 (R540). -/
  | pushDe
  /-- SUB A,n8: 0xD6 (R418). -/
  | subAN8 (n8 : Byte)
  /-- RST $10: 0xD7 (R730). -/
  | rst10
  /-- RET C: 0xD8 (R723). -/
  | retC
  /-- RETI: 0xD9 (R724). -/
  | reti
  /-- JP C,n16: 0xDA (R701). -/
  | jpCN16 (n16 : Word)
  /-- CALL C,n16: 0xDC (R721). -/
  | callCN16 (n16 : Word)
  /-- SBC A,n8: 0xDE (R421). -/
  | sbcAN8 (n8 : Byte)
  /-- RST $18: 0xDF (R730). -/
  | rst18
  /-- LDH [n8],A: 0xE0 (R514). -/
  | ldhAtN8A (n8 : Byte)
  /-- POP HL: 0xE1 (R541). -/
  | popHl
  /-- LDH [C],A: 0xE2 (R512). -/
  | ldhAtCA
  /-- PUSH HL: 0xE5 (R540). -/
  | pushHl
  /-- AND A,n8: 0xE6 (R424). -/
  | andAN8 (n8 : Byte)
  /-- RST $20: 0xE7 (R730). -/
  | rst20
  /-- ADD SP,e8: 0xE8 (R603). -/
  | addSpE8 (e8 : Byte)
  /-- JP HL: 0xE9 (R702). -/
  | jpHl
  /-- LD [n16],A: 0xEA (R510). -/
  | ldAtN16A (n16 : Word)
  /-- XOR A,n8: 0xEE (R427). -/
  | xorAN8 (n8 : Byte)
  /-- RST $28: 0xEF (R730). -/
  | rst28
  /-- LDH A,[n8]: 0xF0 (R513). -/
  | ldhAAtN8 (n8 : Byte)
  /-- POP AF: 0xF1 (R541). -/
  | popAf
  /-- LDH A,[C]: 0xF2 (R511). -/
  | ldhAAtC
  /-- DI: 0xF3 (R920). -/
  | di
  /-- PUSH AF: 0xF5 (R540). -/
  | pushAf
  /-- OR A,n8: 0xF6 (R430). -/
  | orAN8 (n8 : Byte)
  /-- RST $30: 0xF7 (R730). -/
  | rst30
  /-- LD HL,SP+e8: 0xF8 (R604). -/
  | ldHlSpE8 (e8 : Byte)
  /-- LD SP,HL: 0xF9 (R532). -/
  | ldSpHl
  /-- LD A,[n16]: 0xFA (R509). -/
  | ldAAtN16 (n16 : Word)
  /-- EI: 0xFB (R921). -/
  | ei
  /-- CP A,n8: 0xFE (R433). -/
  | cpAN8 (n8 : Byte)
  /-- RST $38: 0xFF (R730). -/
  | rst38
  /-- RLC B: 0xCB 0x00 (R811). -/
  | rlcB
  /-- RLC C: 0xCB 0x01 (R811). -/
  | rlcC
  /-- RLC D: 0xCB 0x02 (R811). -/
  | rlcD
  /-- RLC E: 0xCB 0x03 (R811). -/
  | rlcE
  /-- RLC H: 0xCB 0x04 (R811). -/
  | rlcH
  /-- RLC L: 0xCB 0x05 (R811). -/
  | rlcL
  /-- RLC [HL]: 0xCB 0x06 (R812). -/
  | rlcAtHl
  /-- RLC A: 0xCB 0x07 (R811). -/
  | rlcA
  /-- RRC B: 0xCB 0x08 (R813). -/
  | rrcB
  /-- RRC C: 0xCB 0x09 (R813). -/
  | rrcC
  /-- RRC D: 0xCB 0x0A (R813). -/
  | rrcD
  /-- RRC E: 0xCB 0x0B (R813). -/
  | rrcE
  /-- RRC H: 0xCB 0x0C (R813). -/
  | rrcH
  /-- RRC L: 0xCB 0x0D (R813). -/
  | rrcL
  /-- RRC [HL]: 0xCB 0x0E (R814). -/
  | rrcAtHl
  /-- RRC A: 0xCB 0x0F (R813). -/
  | rrcA
  /-- RL B: 0xCB 0x10 (R815). -/
  | rlB
  /-- RL C: 0xCB 0x11 (R815). -/
  | rlC
  /-- RL D: 0xCB 0x12 (R815). -/
  | rlD
  /-- RL E: 0xCB 0x13 (R815). -/
  | rlE
  /-- RL H: 0xCB 0x14 (R815). -/
  | rlH
  /-- RL L: 0xCB 0x15 (R815). -/
  | rlL
  /-- RL [HL]: 0xCB 0x16 (R816). -/
  | rlAtHl
  /-- RL A: 0xCB 0x17 (R815). -/
  | rlA
  /-- RR B: 0xCB 0x18 (R817). -/
  | rrB
  /-- RR C: 0xCB 0x19 (R817). -/
  | rrC
  /-- RR D: 0xCB 0x1A (R817). -/
  | rrD
  /-- RR E: 0xCB 0x1B (R817). -/
  | rrE
  /-- RR H: 0xCB 0x1C (R817). -/
  | rrH
  /-- RR L: 0xCB 0x1D (R817). -/
  | rrL
  /-- RR [HL]: 0xCB 0x1E (R818). -/
  | rrAtHl
  /-- RR A: 0xCB 0x1F (R817). -/
  | rrA
  /-- SLA B: 0xCB 0x20 (R819). -/
  | slaB
  /-- SLA C: 0xCB 0x21 (R819). -/
  | slaC
  /-- SLA D: 0xCB 0x22 (R819). -/
  | slaD
  /-- SLA E: 0xCB 0x23 (R819). -/
  | slaE
  /-- SLA H: 0xCB 0x24 (R819). -/
  | slaH
  /-- SLA L: 0xCB 0x25 (R819). -/
  | slaL
  /-- SLA [HL]: 0xCB 0x26 (R820). -/
  | slaAtHl
  /-- SLA A: 0xCB 0x27 (R819). -/
  | slaA
  /-- SRA B: 0xCB 0x28 (R821). -/
  | sraB
  /-- SRA C: 0xCB 0x29 (R821). -/
  | sraC
  /-- SRA D: 0xCB 0x2A (R821). -/
  | sraD
  /-- SRA E: 0xCB 0x2B (R821). -/
  | sraE
  /-- SRA H: 0xCB 0x2C (R821). -/
  | sraH
  /-- SRA L: 0xCB 0x2D (R821). -/
  | sraL
  /-- SRA [HL]: 0xCB 0x2E (R822). -/
  | sraAtHl
  /-- SRA A: 0xCB 0x2F (R821). -/
  | sraA
  /-- SWAP B: 0xCB 0x30 (R823). -/
  | swapB
  /-- SWAP C: 0xCB 0x31 (R823). -/
  | swapC
  /-- SWAP D: 0xCB 0x32 (R823). -/
  | swapD
  /-- SWAP E: 0xCB 0x33 (R823). -/
  | swapE
  /-- SWAP H: 0xCB 0x34 (R823). -/
  | swapH
  /-- SWAP L: 0xCB 0x35 (R823). -/
  | swapL
  /-- SWAP [HL]: 0xCB 0x36 (R824). -/
  | swapAtHl
  /-- SWAP A: 0xCB 0x37 (R823). -/
  | swapA
  /-- SRL B: 0xCB 0x38 (R825). -/
  | srlB
  /-- SRL C: 0xCB 0x39 (R825). -/
  | srlC
  /-- SRL D: 0xCB 0x3A (R825). -/
  | srlD
  /-- SRL E: 0xCB 0x3B (R825). -/
  | srlE
  /-- SRL H: 0xCB 0x3C (R825). -/
  | srlH
  /-- SRL L: 0xCB 0x3D (R825). -/
  | srlL
  /-- SRL [HL]: 0xCB 0x3E (R826). -/
  | srlAtHl
  /-- SRL A: 0xCB 0x3F (R825). -/
  | srlA
  /-- BIT 0,B: 0xCB 0x40 (R830). -/
  | bit0B
  /-- BIT 0,C: 0xCB 0x41 (R830). -/
  | bit0C
  /-- BIT 0,D: 0xCB 0x42 (R830). -/
  | bit0D
  /-- BIT 0,E: 0xCB 0x43 (R830). -/
  | bit0E
  /-- BIT 0,H: 0xCB 0x44 (R830). -/
  | bit0H
  /-- BIT 0,L: 0xCB 0x45 (R830). -/
  | bit0L
  /-- BIT 0,[HL]: 0xCB 0x46 (R831). -/
  | bit0AtHl
  /-- BIT 0,A: 0xCB 0x47 (R830). -/
  | bit0A
  /-- BIT 1,B: 0xCB 0x48 (R830). -/
  | bit1B
  /-- BIT 1,C: 0xCB 0x49 (R830). -/
  | bit1C
  /-- BIT 1,D: 0xCB 0x4A (R830). -/
  | bit1D
  /-- BIT 1,E: 0xCB 0x4B (R830). -/
  | bit1E
  /-- BIT 1,H: 0xCB 0x4C (R830). -/
  | bit1H
  /-- BIT 1,L: 0xCB 0x4D (R830). -/
  | bit1L
  /-- BIT 1,[HL]: 0xCB 0x4E (R831). -/
  | bit1AtHl
  /-- BIT 1,A: 0xCB 0x4F (R830). -/
  | bit1A
  /-- BIT 2,B: 0xCB 0x50 (R830). -/
  | bit2B
  /-- BIT 2,C: 0xCB 0x51 (R830). -/
  | bit2C
  /-- BIT 2,D: 0xCB 0x52 (R830). -/
  | bit2D
  /-- BIT 2,E: 0xCB 0x53 (R830). -/
  | bit2E
  /-- BIT 2,H: 0xCB 0x54 (R830). -/
  | bit2H
  /-- BIT 2,L: 0xCB 0x55 (R830). -/
  | bit2L
  /-- BIT 2,[HL]: 0xCB 0x56 (R831). -/
  | bit2AtHl
  /-- BIT 2,A: 0xCB 0x57 (R830). -/
  | bit2A
  /-- BIT 3,B: 0xCB 0x58 (R830). -/
  | bit3B
  /-- BIT 3,C: 0xCB 0x59 (R830). -/
  | bit3C
  /-- BIT 3,D: 0xCB 0x5A (R830). -/
  | bit3D
  /-- BIT 3,E: 0xCB 0x5B (R830). -/
  | bit3E
  /-- BIT 3,H: 0xCB 0x5C (R830). -/
  | bit3H
  /-- BIT 3,L: 0xCB 0x5D (R830). -/
  | bit3L
  /-- BIT 3,[HL]: 0xCB 0x5E (R831). -/
  | bit3AtHl
  /-- BIT 3,A: 0xCB 0x5F (R830). -/
  | bit3A
  /-- BIT 4,B: 0xCB 0x60 (R830). -/
  | bit4B
  /-- BIT 4,C: 0xCB 0x61 (R830). -/
  | bit4C
  /-- BIT 4,D: 0xCB 0x62 (R830). -/
  | bit4D
  /-- BIT 4,E: 0xCB 0x63 (R830). -/
  | bit4E
  /-- BIT 4,H: 0xCB 0x64 (R830). -/
  | bit4H
  /-- BIT 4,L: 0xCB 0x65 (R830). -/
  | bit4L
  /-- BIT 4,[HL]: 0xCB 0x66 (R831). -/
  | bit4AtHl
  /-- BIT 4,A: 0xCB 0x67 (R830). -/
  | bit4A
  /-- BIT 5,B: 0xCB 0x68 (R830). -/
  | bit5B
  /-- BIT 5,C: 0xCB 0x69 (R830). -/
  | bit5C
  /-- BIT 5,D: 0xCB 0x6A (R830). -/
  | bit5D
  /-- BIT 5,E: 0xCB 0x6B (R830). -/
  | bit5E
  /-- BIT 5,H: 0xCB 0x6C (R830). -/
  | bit5H
  /-- BIT 5,L: 0xCB 0x6D (R830). -/
  | bit5L
  /-- BIT 5,[HL]: 0xCB 0x6E (R831). -/
  | bit5AtHl
  /-- BIT 5,A: 0xCB 0x6F (R830). -/
  | bit5A
  /-- BIT 6,B: 0xCB 0x70 (R830). -/
  | bit6B
  /-- BIT 6,C: 0xCB 0x71 (R830). -/
  | bit6C
  /-- BIT 6,D: 0xCB 0x72 (R830). -/
  | bit6D
  /-- BIT 6,E: 0xCB 0x73 (R830). -/
  | bit6E
  /-- BIT 6,H: 0xCB 0x74 (R830). -/
  | bit6H
  /-- BIT 6,L: 0xCB 0x75 (R830). -/
  | bit6L
  /-- BIT 6,[HL]: 0xCB 0x76 (R831). -/
  | bit6AtHl
  /-- BIT 6,A: 0xCB 0x77 (R830). -/
  | bit6A
  /-- BIT 7,B: 0xCB 0x78 (R830). -/
  | bit7B
  /-- BIT 7,C: 0xCB 0x79 (R830). -/
  | bit7C
  /-- BIT 7,D: 0xCB 0x7A (R830). -/
  | bit7D
  /-- BIT 7,E: 0xCB 0x7B (R830). -/
  | bit7E
  /-- BIT 7,H: 0xCB 0x7C (R830). -/
  | bit7H
  /-- BIT 7,L: 0xCB 0x7D (R830). -/
  | bit7L
  /-- BIT 7,[HL]: 0xCB 0x7E (R831). -/
  | bit7AtHl
  /-- BIT 7,A: 0xCB 0x7F (R830). -/
  | bit7A
  /-- RES 0,B: 0xCB 0x80 (R832). -/
  | res0B
  /-- RES 0,C: 0xCB 0x81 (R832). -/
  | res0C
  /-- RES 0,D: 0xCB 0x82 (R832). -/
  | res0D
  /-- RES 0,E: 0xCB 0x83 (R832). -/
  | res0E
  /-- RES 0,H: 0xCB 0x84 (R832). -/
  | res0H
  /-- RES 0,L: 0xCB 0x85 (R832). -/
  | res0L
  /-- RES 0,[HL]: 0xCB 0x86 (R833). -/
  | res0AtHl
  /-- RES 0,A: 0xCB 0x87 (R832). -/
  | res0A
  /-- RES 1,B: 0xCB 0x88 (R832). -/
  | res1B
  /-- RES 1,C: 0xCB 0x89 (R832). -/
  | res1C
  /-- RES 1,D: 0xCB 0x8A (R832). -/
  | res1D
  /-- RES 1,E: 0xCB 0x8B (R832). -/
  | res1E
  /-- RES 1,H: 0xCB 0x8C (R832). -/
  | res1H
  /-- RES 1,L: 0xCB 0x8D (R832). -/
  | res1L
  /-- RES 1,[HL]: 0xCB 0x8E (R833). -/
  | res1AtHl
  /-- RES 1,A: 0xCB 0x8F (R832). -/
  | res1A
  /-- RES 2,B: 0xCB 0x90 (R832). -/
  | res2B
  /-- RES 2,C: 0xCB 0x91 (R832). -/
  | res2C
  /-- RES 2,D: 0xCB 0x92 (R832). -/
  | res2D
  /-- RES 2,E: 0xCB 0x93 (R832). -/
  | res2E
  /-- RES 2,H: 0xCB 0x94 (R832). -/
  | res2H
  /-- RES 2,L: 0xCB 0x95 (R832). -/
  | res2L
  /-- RES 2,[HL]: 0xCB 0x96 (R833). -/
  | res2AtHl
  /-- RES 2,A: 0xCB 0x97 (R832). -/
  | res2A
  /-- RES 3,B: 0xCB 0x98 (R832). -/
  | res3B
  /-- RES 3,C: 0xCB 0x99 (R832). -/
  | res3C
  /-- RES 3,D: 0xCB 0x9A (R832). -/
  | res3D
  /-- RES 3,E: 0xCB 0x9B (R832). -/
  | res3E
  /-- RES 3,H: 0xCB 0x9C (R832). -/
  | res3H
  /-- RES 3,L: 0xCB 0x9D (R832). -/
  | res3L
  /-- RES 3,[HL]: 0xCB 0x9E (R833). -/
  | res3AtHl
  /-- RES 3,A: 0xCB 0x9F (R832). -/
  | res3A
  /-- RES 4,B: 0xCB 0xA0 (R832). -/
  | res4B
  /-- RES 4,C: 0xCB 0xA1 (R832). -/
  | res4C
  /-- RES 4,D: 0xCB 0xA2 (R832). -/
  | res4D
  /-- RES 4,E: 0xCB 0xA3 (R832). -/
  | res4E
  /-- RES 4,H: 0xCB 0xA4 (R832). -/
  | res4H
  /-- RES 4,L: 0xCB 0xA5 (R832). -/
  | res4L
  /-- RES 4,[HL]: 0xCB 0xA6 (R833). -/
  | res4AtHl
  /-- RES 4,A: 0xCB 0xA7 (R832). -/
  | res4A
  /-- RES 5,B: 0xCB 0xA8 (R832). -/
  | res5B
  /-- RES 5,C: 0xCB 0xA9 (R832). -/
  | res5C
  /-- RES 5,D: 0xCB 0xAA (R832). -/
  | res5D
  /-- RES 5,E: 0xCB 0xAB (R832). -/
  | res5E
  /-- RES 5,H: 0xCB 0xAC (R832). -/
  | res5H
  /-- RES 5,L: 0xCB 0xAD (R832). -/
  | res5L
  /-- RES 5,[HL]: 0xCB 0xAE (R833). -/
  | res5AtHl
  /-- RES 5,A: 0xCB 0xAF (R832). -/
  | res5A
  /-- RES 6,B: 0xCB 0xB0 (R832). -/
  | res6B
  /-- RES 6,C: 0xCB 0xB1 (R832). -/
  | res6C
  /-- RES 6,D: 0xCB 0xB2 (R832). -/
  | res6D
  /-- RES 6,E: 0xCB 0xB3 (R832). -/
  | res6E
  /-- RES 6,H: 0xCB 0xB4 (R832). -/
  | res6H
  /-- RES 6,L: 0xCB 0xB5 (R832). -/
  | res6L
  /-- RES 6,[HL]: 0xCB 0xB6 (R833). -/
  | res6AtHl
  /-- RES 6,A: 0xCB 0xB7 (R832). -/
  | res6A
  /-- RES 7,B: 0xCB 0xB8 (R832). -/
  | res7B
  /-- RES 7,C: 0xCB 0xB9 (R832). -/
  | res7C
  /-- RES 7,D: 0xCB 0xBA (R832). -/
  | res7D
  /-- RES 7,E: 0xCB 0xBB (R832). -/
  | res7E
  /-- RES 7,H: 0xCB 0xBC (R832). -/
  | res7H
  /-- RES 7,L: 0xCB 0xBD (R832). -/
  | res7L
  /-- RES 7,[HL]: 0xCB 0xBE (R833). -/
  | res7AtHl
  /-- RES 7,A: 0xCB 0xBF (R832). -/
  | res7A
  /-- SET 0,B: 0xCB 0xC0 (R834). -/
  | set0B
  /-- SET 0,C: 0xCB 0xC1 (R834). -/
  | set0C
  /-- SET 0,D: 0xCB 0xC2 (R834). -/
  | set0D
  /-- SET 0,E: 0xCB 0xC3 (R834). -/
  | set0E
  /-- SET 0,H: 0xCB 0xC4 (R834). -/
  | set0H
  /-- SET 0,L: 0xCB 0xC5 (R834). -/
  | set0L
  /-- SET 0,[HL]: 0xCB 0xC6 (R835). -/
  | set0AtHl
  /-- SET 0,A: 0xCB 0xC7 (R834). -/
  | set0A
  /-- SET 1,B: 0xCB 0xC8 (R834). -/
  | set1B
  /-- SET 1,C: 0xCB 0xC9 (R834). -/
  | set1C
  /-- SET 1,D: 0xCB 0xCA (R834). -/
  | set1D
  /-- SET 1,E: 0xCB 0xCB (R834). -/
  | set1E
  /-- SET 1,H: 0xCB 0xCC (R834). -/
  | set1H
  /-- SET 1,L: 0xCB 0xCD (R834). -/
  | set1L
  /-- SET 1,[HL]: 0xCB 0xCE (R835). -/
  | set1AtHl
  /-- SET 1,A: 0xCB 0xCF (R834). -/
  | set1A
  /-- SET 2,B: 0xCB 0xD0 (R834). -/
  | set2B
  /-- SET 2,C: 0xCB 0xD1 (R834). -/
  | set2C
  /-- SET 2,D: 0xCB 0xD2 (R834). -/
  | set2D
  /-- SET 2,E: 0xCB 0xD3 (R834). -/
  | set2E
  /-- SET 2,H: 0xCB 0xD4 (R834). -/
  | set2H
  /-- SET 2,L: 0xCB 0xD5 (R834). -/
  | set2L
  /-- SET 2,[HL]: 0xCB 0xD6 (R835). -/
  | set2AtHl
  /-- SET 2,A: 0xCB 0xD7 (R834). -/
  | set2A
  /-- SET 3,B: 0xCB 0xD8 (R834). -/
  | set3B
  /-- SET 3,C: 0xCB 0xD9 (R834). -/
  | set3C
  /-- SET 3,D: 0xCB 0xDA (R834). -/
  | set3D
  /-- SET 3,E: 0xCB 0xDB (R834). -/
  | set3E
  /-- SET 3,H: 0xCB 0xDC (R834). -/
  | set3H
  /-- SET 3,L: 0xCB 0xDD (R834). -/
  | set3L
  /-- SET 3,[HL]: 0xCB 0xDE (R835). -/
  | set3AtHl
  /-- SET 3,A: 0xCB 0xDF (R834). -/
  | set3A
  /-- SET 4,B: 0xCB 0xE0 (R834). -/
  | set4B
  /-- SET 4,C: 0xCB 0xE1 (R834). -/
  | set4C
  /-- SET 4,D: 0xCB 0xE2 (R834). -/
  | set4D
  /-- SET 4,E: 0xCB 0xE3 (R834). -/
  | set4E
  /-- SET 4,H: 0xCB 0xE4 (R834). -/
  | set4H
  /-- SET 4,L: 0xCB 0xE5 (R834). -/
  | set4L
  /-- SET 4,[HL]: 0xCB 0xE6 (R835). -/
  | set4AtHl
  /-- SET 4,A: 0xCB 0xE7 (R834). -/
  | set4A
  /-- SET 5,B: 0xCB 0xE8 (R834). -/
  | set5B
  /-- SET 5,C: 0xCB 0xE9 (R834). -/
  | set5C
  /-- SET 5,D: 0xCB 0xEA (R834). -/
  | set5D
  /-- SET 5,E: 0xCB 0xEB (R834). -/
  | set5E
  /-- SET 5,H: 0xCB 0xEC (R834). -/
  | set5H
  /-- SET 5,L: 0xCB 0xED (R834). -/
  | set5L
  /-- SET 5,[HL]: 0xCB 0xEE (R835). -/
  | set5AtHl
  /-- SET 5,A: 0xCB 0xEF (R834). -/
  | set5A
  /-- SET 6,B: 0xCB 0xF0 (R834). -/
  | set6B
  /-- SET 6,C: 0xCB 0xF1 (R834). -/
  | set6C
  /-- SET 6,D: 0xCB 0xF2 (R834). -/
  | set6D
  /-- SET 6,E: 0xCB 0xF3 (R834). -/
  | set6E
  /-- SET 6,H: 0xCB 0xF4 (R834). -/
  | set6H
  /-- SET 6,L: 0xCB 0xF5 (R834). -/
  | set6L
  /-- SET 6,[HL]: 0xCB 0xF6 (R835). -/
  | set6AtHl
  /-- SET 6,A: 0xCB 0xF7 (R834). -/
  | set6A
  /-- SET 7,B: 0xCB 0xF8 (R834). -/
  | set7B
  /-- SET 7,C: 0xCB 0xF9 (R834). -/
  | set7C
  /-- SET 7,D: 0xCB 0xFA (R834). -/
  | set7D
  /-- SET 7,E: 0xCB 0xFB (R834). -/
  | set7E
  /-- SET 7,H: 0xCB 0xFC (R834). -/
  | set7H
  /-- SET 7,L: 0xCB 0xFD (R834). -/
  | set7L
  /-- SET 7,[HL]: 0xCB 0xFE (R835). -/
  | set7AtHl
  /-- SET 7,A: 0xCB 0xFF (R834). -/
  | set7A
  /-- ILLEGAL: 0xD3 (R902). -/
  | illegalD3
  /-- ILLEGAL: 0xDB (R902). -/
  | illegalDB
  /-- ILLEGAL: 0xDD (R902). -/
  | illegalDD
  /-- ILLEGAL: 0xE3 (R902). -/
  | illegalE3
  /-- ILLEGAL: 0xE4 (R902). -/
  | illegalE4
  /-- ILLEGAL: 0xEB (R902). -/
  | illegalEB
  /-- ILLEGAL: 0xEC (R902). -/
  | illegalEC
  /-- ILLEGAL: 0xED (R902). -/
  | illegalED
  /-- ILLEGAL: 0xF4 (R902). -/
  | illegalF4
  /-- ILLEGAL: 0xFC (R902). -/
  | illegalFC
  /-- ILLEGAL: 0xFD (R902). -/
  | illegalFD
  deriving DecidableEq, Repr

end Sys2Proof
end

