-- ==== Sys2Proof/WellFormed.lean ====
section
/-! DEFINITION. Well-formed instructions: the ones the decoder can answer. Every operand field has exactly the width
of its place in the encoding (rules R320, R335), so no operand value is ill formed. The one ill-formed term is the
primary table's row PREFIX CB: its words are the words of the secondary rows, and the decoder answers those
(rules R310, R901; log entry 8). -/

namespace Sys2Proof

/-- An instruction the decoder answers for its own words: every one but PREFIX CB, which forwards (rule R901). -/
def Instr.wellFormed : Instr → Bool
  | .prefixCb _ => false
  | _ => true

end Sys2Proof
end

