-- ==== Sys2Proof/Decode.lean ====
section
/-! DEFINITION. Decoding: the two opcode maps of rules R340 and R341 written row by row as the spec writes them, the
length of an instruction from its first byte, the decoder over a stream of bytes, and the encoder. -/

namespace Sys2Proof

/-- Row 0x of the primary map (rule R340). -/
def primaryRow0 (n8 : Byte) (n16 : Word) : List Instr :=
  [.nop, .ldBcN16 n16, .ldAtBcA, .incBc,
   .incB, .decB, .ldBN8 n8, .rlca,
   .ldAtN16Sp n16, .addHlBc, .ldAAtBc, .decBc,
   .incC, .decC, .ldCN8 n8, .rrca]

/-- Row 1x of the primary map (rule R340). -/
def primaryRow1 (n8 : Byte) (n16 : Word) : List Instr :=
  [.stop n8, .ldDeN16 n16, .ldAtDeA, .incDe,
   .incD, .decD, .ldDN8 n8, .rla,
   .jrE8 n8, .addHlDe, .ldAAtDe, .decDe,
   .incE, .decE, .ldEN8 n8, .rra]

/-- Row 2x of the primary map (rule R340). -/
def primaryRow2 (n8 : Byte) (n16 : Word) : List Instr :=
  [.jrNzE8 n8, .ldHlN16 n16, .ldAtHlIncA, .incHl,
   .incH, .decH, .ldHN8 n8, .daa,
   .jrZE8 n8, .addHlHl, .ldAAtHlInc, .decHl,
   .incL, .decL, .ldLN8 n8, .cpl]

/-- Row 3x of the primary map (rule R340). -/
def primaryRow3 (n8 : Byte) (n16 : Word) : List Instr :=
  [.jrNcE8 n8, .ldSpN16 n16, .ldAtHlDecA, .incSp,
   .incAtHl, .decAtHl, .ldAtHlN8 n8, .scf,
   .jrCE8 n8, .addHlSp, .ldAAtHlDec, .decSp,
   .incA, .decA, .ldAN8 n8, .ccf]

/-- Row 4x of the primary map (rule R340). -/
def primaryRow4 (_ : Byte) (_ : Word) : List Instr :=
  [.ldBB, .ldBC, .ldBD, .ldBE,
   .ldBH, .ldBL, .ldBAtHl, .ldBA,
   .ldCB, .ldCC, .ldCD, .ldCE,
   .ldCH, .ldCL, .ldCAtHl, .ldCA]

/-- Row 5x of the primary map (rule R340). -/
def primaryRow5 (_ : Byte) (_ : Word) : List Instr :=
  [.ldDB, .ldDC, .ldDD, .ldDE,
   .ldDH, .ldDL, .ldDAtHl, .ldDA,
   .ldEB, .ldEC, .ldED, .ldEE,
   .ldEH, .ldEL, .ldEAtHl, .ldEA]

/-- Row 6x of the primary map (rule R340). -/
def primaryRow6 (_ : Byte) (_ : Word) : List Instr :=
  [.ldHB, .ldHC, .ldHD, .ldHE,
   .ldHH, .ldHL, .ldHAtHl, .ldHA,
   .ldLB, .ldLC, .ldLD, .ldLE,
   .ldLH, .ldLL, .ldLAtHl, .ldLA]

/-- Row 7x of the primary map (rule R340). -/
def primaryRow7 (_ : Byte) (_ : Word) : List Instr :=
  [.ldAtHlB, .ldAtHlC, .ldAtHlD, .ldAtHlE,
   .ldAtHlH, .ldAtHlL, .halt, .ldAtHlA,
   .ldAB, .ldAC, .ldAD, .ldAE,
   .ldAH, .ldAL, .ldAAtHl, .ldAA]

/-- Row 8x of the primary map (rule R340). -/
def primaryRow8 (_ : Byte) (_ : Word) : List Instr :=
  [.addAB, .addAC, .addAD, .addAE,
   .addAH, .addAL, .addAAtHl, .addAA,
   .adcAB, .adcAC, .adcAD, .adcAE,
   .adcAH, .adcAL, .adcAAtHl, .adcAA]

/-- Row 9x of the primary map (rule R340). -/
def primaryRow9 (_ : Byte) (_ : Word) : List Instr :=
  [.subAB, .subAC, .subAD, .subAE,
   .subAH, .subAL, .subAAtHl, .subAA,
   .sbcAB, .sbcAC, .sbcAD, .sbcAE,
   .sbcAH, .sbcAL, .sbcAAtHl, .sbcAA]

/-- Row Ax of the primary map (rule R340). -/
def primaryRowA (_ : Byte) (_ : Word) : List Instr :=
  [.andAB, .andAC, .andAD, .andAE,
   .andAH, .andAL, .andAAtHl, .andAA,
   .xorAB, .xorAC, .xorAD, .xorAE,
   .xorAH, .xorAL, .xorAAtHl, .xorAA]

/-- Row Bx of the primary map (rule R340). -/
def primaryRowB (_ : Byte) (_ : Word) : List Instr :=
  [.orAB, .orAC, .orAD, .orAE,
   .orAH, .orAL, .orAAtHl, .orAA,
   .cpAB, .cpAC, .cpAD, .cpAE,
   .cpAH, .cpAL, .cpAAtHl, .cpAA]

/-- Row Cx of the primary map (rule R340). -/
def primaryRowC (n8 : Byte) (n16 : Word) : List Instr :=
  [.retNz, .popBc, .jpNzN16 n16, .jpN16 n16,
   .callNzN16 n16, .pushBc, .addAN8 n8, .rst00,
   .retZ, .ret, .jpZN16 n16, .prefixCb n8,
   .callZN16 n16, .callN16 n16, .adcAN8 n8, .rst08]

/-- Row Dx of the primary map (rule R340). -/
def primaryRowD (n8 : Byte) (n16 : Word) : List Instr :=
  [.retNc, .popDe, .jpNcN16 n16, .illegalD3,
   .callNcN16 n16, .pushDe, .subAN8 n8, .rst10,
   .retC, .reti, .jpCN16 n16, .illegalDB,
   .callCN16 n16, .illegalDD, .sbcAN8 n8, .rst18]

/-- Row Ex of the primary map (rule R340). -/
def primaryRowE (n8 : Byte) (n16 : Word) : List Instr :=
  [.ldhAtN8A n8, .popHl, .ldhAtCA, .illegalE3,
   .illegalE4, .pushHl, .andAN8 n8, .rst20,
   .addSpE8 n8, .jpHl, .ldAtN16A n16, .illegalEB,
   .illegalEC, .illegalED, .xorAN8 n8, .rst28]

/-- Row Fx of the primary map (rule R340). -/
def primaryRowF (n8 : Byte) (n16 : Word) : List Instr :=
  [.ldhAAtN8 n8, .popAf, .ldhAAtC, .di,
   .illegalF4, .pushAf, .orAN8 n8, .rst30,
   .ldHlSpE8 n8, .ldSpHl, .ldAAtN16 n16, .ei,
   .illegalFC, .illegalFD, .cpAN8 n8, .rst38]

/-- The primary map, row by row: the row is the high nibble (rule R340). -/
def primaryMap (n8 : Byte) (n16 : Word) : List (List Instr) :=
  [primaryRow0 n8 n16, primaryRow1 n8 n16, primaryRow2 n8 n16, primaryRow3 n8 n16, primaryRow4 n8 n16, primaryRow5 n8 n16, primaryRow6 n8 n16, primaryRow7 n8 n16,
   primaryRow8 n8 n16, primaryRow9 n8 n16, primaryRowA n8 n16, primaryRowB n8 n16, primaryRowC n8 n16, primaryRowD n8 n16, primaryRowE n8 n16, primaryRowF n8 n16]

/-- PRIMARY[op] (rules R314, R340) with the operand bytes that follow it. -/
def decodePrimary (op n8 : Byte) (n16 : Word) : Instr :=
  ((primaryMap n8 n16).getD (op.toNat / 16) []).getD (op.toNat % 16) .nop

/-- Row CB 0x of the secondary map (rule R341). -/
def secondaryRow0 : List Instr :=
  [.rlcB, .rlcC, .rlcD, .rlcE, .rlcH, .rlcL, .rlcAtHl, .rlcA,
   .rrcB, .rrcC, .rrcD, .rrcE, .rrcH, .rrcL, .rrcAtHl, .rrcA]

/-- Row CB 1x of the secondary map (rule R341). -/
def secondaryRow1 : List Instr :=
  [.rlB, .rlC, .rlD, .rlE, .rlH, .rlL, .rlAtHl, .rlA,
   .rrB, .rrC, .rrD, .rrE, .rrH, .rrL, .rrAtHl, .rrA]

/-- Row CB 2x of the secondary map (rule R341). -/
def secondaryRow2 : List Instr :=
  [.slaB, .slaC, .slaD, .slaE, .slaH, .slaL, .slaAtHl, .slaA,
   .sraB, .sraC, .sraD, .sraE, .sraH, .sraL, .sraAtHl, .sraA]

/-- Row CB 3x of the secondary map (rule R341). -/
def secondaryRow3 : List Instr :=
  [.swapB, .swapC, .swapD, .swapE, .swapH, .swapL, .swapAtHl, .swapA,
   .srlB, .srlC, .srlD, .srlE, .srlH, .srlL, .srlAtHl, .srlA]

/-- Row CB 4x of the secondary map (rule R341). -/
def secondaryRow4 : List Instr :=
  [.bit0B, .bit0C, .bit0D, .bit0E, .bit0H, .bit0L, .bit0AtHl, .bit0A,
   .bit1B, .bit1C, .bit1D, .bit1E, .bit1H, .bit1L, .bit1AtHl, .bit1A]

/-- Row CB 5x of the secondary map (rule R341). -/
def secondaryRow5 : List Instr :=
  [.bit2B, .bit2C, .bit2D, .bit2E, .bit2H, .bit2L, .bit2AtHl, .bit2A,
   .bit3B, .bit3C, .bit3D, .bit3E, .bit3H, .bit3L, .bit3AtHl, .bit3A]

/-- Row CB 6x of the secondary map (rule R341). -/
def secondaryRow6 : List Instr :=
  [.bit4B, .bit4C, .bit4D, .bit4E, .bit4H, .bit4L, .bit4AtHl, .bit4A,
   .bit5B, .bit5C, .bit5D, .bit5E, .bit5H, .bit5L, .bit5AtHl, .bit5A]

/-- Row CB 7x of the secondary map (rule R341). -/
def secondaryRow7 : List Instr :=
  [.bit6B, .bit6C, .bit6D, .bit6E, .bit6H, .bit6L, .bit6AtHl, .bit6A,
   .bit7B, .bit7C, .bit7D, .bit7E, .bit7H, .bit7L, .bit7AtHl, .bit7A]

/-- Row CB 8x of the secondary map (rule R341). -/
def secondaryRow8 : List Instr :=
  [.res0B, .res0C, .res0D, .res0E, .res0H, .res0L, .res0AtHl, .res0A,
   .res1B, .res1C, .res1D, .res1E, .res1H, .res1L, .res1AtHl, .res1A]

/-- Row CB 9x of the secondary map (rule R341). -/
def secondaryRow9 : List Instr :=
  [.res2B, .res2C, .res2D, .res2E, .res2H, .res2L, .res2AtHl, .res2A,
   .res3B, .res3C, .res3D, .res3E, .res3H, .res3L, .res3AtHl, .res3A]

/-- Row CB Ax of the secondary map (rule R341). -/
def secondaryRowA : List Instr :=
  [.res4B, .res4C, .res4D, .res4E, .res4H, .res4L, .res4AtHl, .res4A,
   .res5B, .res5C, .res5D, .res5E, .res5H, .res5L, .res5AtHl, .res5A]

/-- Row CB Bx of the secondary map (rule R341). -/
def secondaryRowB : List Instr :=
  [.res6B, .res6C, .res6D, .res6E, .res6H, .res6L, .res6AtHl, .res6A,
   .res7B, .res7C, .res7D, .res7E, .res7H, .res7L, .res7AtHl, .res7A]

/-- Row CB Cx of the secondary map (rule R341). -/
def secondaryRowC : List Instr :=
  [.set0B, .set0C, .set0D, .set0E, .set0H, .set0L, .set0AtHl, .set0A,
   .set1B, .set1C, .set1D, .set1E, .set1H, .set1L, .set1AtHl, .set1A]

/-- Row CB Dx of the secondary map (rule R341). -/
def secondaryRowD : List Instr :=
  [.set2B, .set2C, .set2D, .set2E, .set2H, .set2L, .set2AtHl, .set2A,
   .set3B, .set3C, .set3D, .set3E, .set3H, .set3L, .set3AtHl, .set3A]

/-- Row CB Ex of the secondary map (rule R341). -/
def secondaryRowE : List Instr :=
  [.set4B, .set4C, .set4D, .set4E, .set4H, .set4L, .set4AtHl, .set4A,
   .set5B, .set5C, .set5D, .set5E, .set5H, .set5L, .set5AtHl, .set5A]

/-- Row CB Fx of the secondary map (rule R341). -/
def secondaryRowF : List Instr :=
  [.set6B, .set6C, .set6D, .set6E, .set6H, .set6L, .set6AtHl, .set6A,
   .set7B, .set7C, .set7D, .set7E, .set7H, .set7L, .set7AtHl, .set7A]

/-- The secondary map, row by row: the row is the high nibble (rule R341). -/
def secondaryMap : List (List Instr) :=
  [secondaryRow0, secondaryRow1, secondaryRow2, secondaryRow3, secondaryRow4, secondaryRow5, secondaryRow6, secondaryRow7,
   secondaryRow8, secondaryRow9, secondaryRowA, secondaryRowB, secondaryRowC, secondaryRowD, secondaryRowE, secondaryRowF]

/-- SECONDARY[op2] (rules R314, R341). -/
def decodeSecondary (op2 : Byte) : Instr :=
  (secondaryMap.getD (op2.toNat / 16) []).getD (op2.toNat % 16) .nop

/-- The opcodes of three-byte instructions: format op_n16 of rules R320 and R340. -/
def threeByteOpcodes : List Byte :=
  [0x01, 0x11, 0x21, 0x31, 0x08, 0xC3, 0xC2, 0xCA, 0xD2, 0xDA,
   0xCD, 0xC4, 0xCC, 0xD4, 0xDC, 0xEA, 0xFA]

/-- The opcodes of two-byte instructions: formats op_n8, op_e8 and cb of rules R320 and R340. -/
def twoByteOpcodes : List Byte :=
  [0x06, 0x0E, 0x16, 0x1E, 0x26, 0x2E, 0x36, 0x3E, 0x10, 0x18, 0x20, 0x28, 0x30, 0x38,
   0xC6, 0xCE, 0xD6, 0xDE, 0xE6, 0xEE, 0xF6, 0xFE, 0xE0, 0xF0, 0xE8, 0xF8, 0xCB]

/-- The length in bytes of an instruction, known from its first byte alone (rule R316). -/
def instrLength (op : Byte) : Nat :=
  if threeByteOpcodes.contains op then 3 else if twoByteOpcodes.contains op then 2 else 1

/-- The instruction of three stream bytes (rules R310, R314, R335): 0xCB selects the secondary map with the second
byte, any other byte the primary map. A byte beyond the instruction's length is not used. -/
def decodeBytes (b0 b1 b2 : Byte) : Instr :=
  if b0 = 0xCB#8 then decodeSecondary b1 else decodePrimary b0 b1 (Word.ofBytes b2 b1)

/-- Why a byte stream does not decode. -/
inductive DecodeError where
  /-- There is no byte. -/
  | empty
  /-- The instruction's first byte asks for need bytes and only have are there (rule R316). -/
  | truncated (need have_ : Nat)
  deriving DecidableEq, Repr

/-- The decoder: the first instruction of a byte stream and the bytes after it, or the reason there is none. Every
complete stream decodes, since both maps are total (rule R314). -/
def decode : List Byte → Except DecodeError (Instr × List Byte)
  | [] => .error .empty
  | b0 :: rest =>
    match instrLength b0, rest with
    | 3, b1 :: b2 :: rest' => .ok (decodeBytes b0 b1 b2, rest')
    | 2, b1 :: rest' => .ok (decodeBytes b0 b1 0x00#8, rest')
    | 1, rest' => .ok (decodeBytes b0 0x00#8 0x00#8, rest')
    | n, rest' => .error (.truncated n (rest'.length + 1))

/-- The bytes of a word of spec/opcode_table.json, in stream order, with zeros after them. A row of the primary
table is tested against byte 0, numbered as the low byte; a secondary row's two-byte match 0xCBxx has byte 0 as its
HIGH byte (30_encoding.md, before rule R310; log entry 9). -/
def tableBytes (nbits w : Nat) : List Byte :=
  if nbits = 16 ∧ w / 256 = 0xCB then [0xCB#8, BitVec.ofNat 8 w, 0x00#8]
  else [BitVec.ofNat 8 w, BitVec.ofNat 8 (w / 256), BitVec.ofNat 8 (w / 65536)]

/-- The instruction the decoder reads from a word numbered as the opcode table numbers it. -/
def decodeTableWord (nbits w : Nat) : Option Instr :=
  match decode (tableBytes nbits w) with
  | .ok r => some r.1
  | .error _ => none

/-- The bytes of an instruction, from the opcodes of spec/opcode_table.json and the formats of rule R320. -/
def encode : Instr → List Byte
  | .nop => [0x00]
  | .ldBcN16 n16 => [0x01, n16.lo, n16.hi]
  | .ldAtBcA => [0x02]
  | .incBc => [0x03]
  | .incB => [0x04]
  | .decB => [0x05]
  | .ldBN8 n8 => [0x06, n8]
  | .rlca => [0x07]
  | .ldAtN16Sp n16 => [0x08, n16.lo, n16.hi]
  | .addHlBc => [0x09]
  | .ldAAtBc => [0x0A]
  | .decBc => [0x0B]
  | .incC => [0x0C]
  | .decC => [0x0D]
  | .ldCN8 n8 => [0x0E, n8]
  | .rrca => [0x0F]
  | .stop n8 => [0x10, n8]
  | .ldDeN16 n16 => [0x11, n16.lo, n16.hi]
  | .ldAtDeA => [0x12]
  | .incDe => [0x13]
  | .incD => [0x14]
  | .decD => [0x15]
  | .ldDN8 n8 => [0x16, n8]
  | .rla => [0x17]
  | .jrE8 e8 => [0x18, e8]
  | .addHlDe => [0x19]
  | .ldAAtDe => [0x1A]
  | .decDe => [0x1B]
  | .incE => [0x1C]
  | .decE => [0x1D]
  | .ldEN8 n8 => [0x1E, n8]
  | .rra => [0x1F]
  | .jrNzE8 e8 => [0x20, e8]
  | .ldHlN16 n16 => [0x21, n16.lo, n16.hi]
  | .ldAtHlIncA => [0x22]
  | .incHl => [0x23]
  | .incH => [0x24]
  | .decH => [0x25]
  | .ldHN8 n8 => [0x26, n8]
  | .daa => [0x27]
  | .jrZE8 e8 => [0x28, e8]
  | .addHlHl => [0x29]
  | .ldAAtHlInc => [0x2A]
  | .decHl => [0x2B]
  | .incL => [0x2C]
  | .decL => [0x2D]
  | .ldLN8 n8 => [0x2E, n8]
  | .cpl => [0x2F]
  | .jrNcE8 e8 => [0x30, e8]
  | .ldSpN16 n16 => [0x31, n16.lo, n16.hi]
  | .ldAtHlDecA => [0x32]
  | .incSp => [0x33]
  | .incAtHl => [0x34]
  | .decAtHl => [0x35]
  | .ldAtHlN8 n8 => [0x36, n8]
  | .scf => [0x37]
  | .jrCE8 e8 => [0x38, e8]
  | .addHlSp => [0x39]
  | .ldAAtHlDec => [0x3A]
  | .decSp => [0x3B]
  | .incA => [0x3C]
  | .decA => [0x3D]
  | .ldAN8 n8 => [0x3E, n8]
  | .ccf => [0x3F]
  | .ldBB => [0x40]
  | .ldBC => [0x41]
  | .ldBD => [0x42]
  | .ldBE => [0x43]
  | .ldBH => [0x44]
  | .ldBL => [0x45]
  | .ldBAtHl => [0x46]
  | .ldBA => [0x47]
  | .ldCB => [0x48]
  | .ldCC => [0x49]
  | .ldCD => [0x4A]
  | .ldCE => [0x4B]
  | .ldCH => [0x4C]
  | .ldCL => [0x4D]
  | .ldCAtHl => [0x4E]
  | .ldCA => [0x4F]
  | .ldDB => [0x50]
  | .ldDC => [0x51]
  | .ldDD => [0x52]
  | .ldDE => [0x53]
  | .ldDH => [0x54]
  | .ldDL => [0x55]
  | .ldDAtHl => [0x56]
  | .ldDA => [0x57]
  | .ldEB => [0x58]
  | .ldEC => [0x59]
  | .ldED => [0x5A]
  | .ldEE => [0x5B]
  | .ldEH => [0x5C]
  | .ldEL => [0x5D]
  | .ldEAtHl => [0x5E]
  | .ldEA => [0x5F]
  | .ldHB => [0x60]
  | .ldHC => [0x61]
  | .ldHD => [0x62]
  | .ldHE => [0x63]
  | .ldHH => [0x64]
  | .ldHL => [0x65]
  | .ldHAtHl => [0x66]
  | .ldHA => [0x67]
  | .ldLB => [0x68]
  | .ldLC => [0x69]
  | .ldLD => [0x6A]
  | .ldLE => [0x6B]
  | .ldLH => [0x6C]
  | .ldLL => [0x6D]
  | .ldLAtHl => [0x6E]
  | .ldLA => [0x6F]
  | .ldAtHlB => [0x70]
  | .ldAtHlC => [0x71]
  | .ldAtHlD => [0x72]
  | .ldAtHlE => [0x73]
  | .ldAtHlH => [0x74]
  | .ldAtHlL => [0x75]
  | .halt => [0x76]
  | .ldAtHlA => [0x77]
  | .ldAB => [0x78]
  | .ldAC => [0x79]
  | .ldAD => [0x7A]
  | .ldAE => [0x7B]
  | .ldAH => [0x7C]
  | .ldAL => [0x7D]
  | .ldAAtHl => [0x7E]
  | .ldAA => [0x7F]
  | .addAB => [0x80]
  | .addAC => [0x81]
  | .addAD => [0x82]
  | .addAE => [0x83]
  | .addAH => [0x84]
  | .addAL => [0x85]
  | .addAAtHl => [0x86]
  | .addAA => [0x87]
  | .adcAB => [0x88]
  | .adcAC => [0x89]
  | .adcAD => [0x8A]
  | .adcAE => [0x8B]
  | .adcAH => [0x8C]
  | .adcAL => [0x8D]
  | .adcAAtHl => [0x8E]
  | .adcAA => [0x8F]
  | .subAB => [0x90]
  | .subAC => [0x91]
  | .subAD => [0x92]
  | .subAE => [0x93]
  | .subAH => [0x94]
  | .subAL => [0x95]
  | .subAAtHl => [0x96]
  | .subAA => [0x97]
  | .sbcAB => [0x98]
  | .sbcAC => [0x99]
  | .sbcAD => [0x9A]
  | .sbcAE => [0x9B]
  | .sbcAH => [0x9C]
  | .sbcAL => [0x9D]
  | .sbcAAtHl => [0x9E]
  | .sbcAA => [0x9F]
  | .andAB => [0xA0]
  | .andAC => [0xA1]
  | .andAD => [0xA2]
  | .andAE => [0xA3]
  | .andAH => [0xA4]
  | .andAL => [0xA5]
  | .andAAtHl => [0xA6]
  | .andAA => [0xA7]
  | .xorAB => [0xA8]
  | .xorAC => [0xA9]
  | .xorAD => [0xAA]
  | .xorAE => [0xAB]
  | .xorAH => [0xAC]
  | .xorAL => [0xAD]
  | .xorAAtHl => [0xAE]
  | .xorAA => [0xAF]
  | .orAB => [0xB0]
  | .orAC => [0xB1]
  | .orAD => [0xB2]
  | .orAE => [0xB3]
  | .orAH => [0xB4]
  | .orAL => [0xB5]
  | .orAAtHl => [0xB6]
  | .orAA => [0xB7]
  | .cpAB => [0xB8]
  | .cpAC => [0xB9]
  | .cpAD => [0xBA]
  | .cpAE => [0xBB]
  | .cpAH => [0xBC]
  | .cpAL => [0xBD]
  | .cpAAtHl => [0xBE]
  | .cpAA => [0xBF]
  | .retNz => [0xC0]
  | .popBc => [0xC1]
  | .jpNzN16 n16 => [0xC2, n16.lo, n16.hi]
  | .jpN16 n16 => [0xC3, n16.lo, n16.hi]
  | .callNzN16 n16 => [0xC4, n16.lo, n16.hi]
  | .pushBc => [0xC5]
  | .addAN8 n8 => [0xC6, n8]
  | .rst00 => [0xC7]
  | .retZ => [0xC8]
  | .ret => [0xC9]
  | .jpZN16 n16 => [0xCA, n16.lo, n16.hi]
  | .prefixCb op2 => [0xCB, op2]
  | .callZN16 n16 => [0xCC, n16.lo, n16.hi]
  | .callN16 n16 => [0xCD, n16.lo, n16.hi]
  | .adcAN8 n8 => [0xCE, n8]
  | .rst08 => [0xCF]
  | .retNc => [0xD0]
  | .popDe => [0xD1]
  | .jpNcN16 n16 => [0xD2, n16.lo, n16.hi]
  | .illegalD3 => [0xD3]
  | .callNcN16 n16 => [0xD4, n16.lo, n16.hi]
  | .pushDe => [0xD5]
  | .subAN8 n8 => [0xD6, n8]
  | .rst10 => [0xD7]
  | .retC => [0xD8]
  | .reti => [0xD9]
  | .jpCN16 n16 => [0xDA, n16.lo, n16.hi]
  | .illegalDB => [0xDB]
  | .callCN16 n16 => [0xDC, n16.lo, n16.hi]
  | .illegalDD => [0xDD]
  | .sbcAN8 n8 => [0xDE, n8]
  | .rst18 => [0xDF]
  | .ldhAtN8A n8 => [0xE0, n8]
  | .popHl => [0xE1]
  | .ldhAtCA => [0xE2]
  | .illegalE3 => [0xE3]
  | .illegalE4 => [0xE4]
  | .pushHl => [0xE5]
  | .andAN8 n8 => [0xE6, n8]
  | .rst20 => [0xE7]
  | .addSpE8 e8 => [0xE8, e8]
  | .jpHl => [0xE9]
  | .ldAtN16A n16 => [0xEA, n16.lo, n16.hi]
  | .illegalEB => [0xEB]
  | .illegalEC => [0xEC]
  | .illegalED => [0xED]
  | .xorAN8 n8 => [0xEE, n8]
  | .rst28 => [0xEF]
  | .ldhAAtN8 n8 => [0xF0, n8]
  | .popAf => [0xF1]
  | .ldhAAtC => [0xF2]
  | .di => [0xF3]
  | .illegalF4 => [0xF4]
  | .pushAf => [0xF5]
  | .orAN8 n8 => [0xF6, n8]
  | .rst30 => [0xF7]
  | .ldHlSpE8 e8 => [0xF8, e8]
  | .ldSpHl => [0xF9]
  | .ldAAtN16 n16 => [0xFA, n16.lo, n16.hi]
  | .ei => [0xFB]
  | .illegalFC => [0xFC]
  | .illegalFD => [0xFD]
  | .cpAN8 n8 => [0xFE, n8]
  | .rst38 => [0xFF]
  | .rlcB => [0xCB, 0x00]
  | .rlcC => [0xCB, 0x01]
  | .rlcD => [0xCB, 0x02]
  | .rlcE => [0xCB, 0x03]
  | .rlcH => [0xCB, 0x04]
  | .rlcL => [0xCB, 0x05]
  | .rlcAtHl => [0xCB, 0x06]
  | .rlcA => [0xCB, 0x07]
  | .rrcB => [0xCB, 0x08]
  | .rrcC => [0xCB, 0x09]
  | .rrcD => [0xCB, 0x0A]
  | .rrcE => [0xCB, 0x0B]
  | .rrcH => [0xCB, 0x0C]
  | .rrcL => [0xCB, 0x0D]
  | .rrcAtHl => [0xCB, 0x0E]
  | .rrcA => [0xCB, 0x0F]
  | .rlB => [0xCB, 0x10]
  | .rlC => [0xCB, 0x11]
  | .rlD => [0xCB, 0x12]
  | .rlE => [0xCB, 0x13]
  | .rlH => [0xCB, 0x14]
  | .rlL => [0xCB, 0x15]
  | .rlAtHl => [0xCB, 0x16]
  | .rlA => [0xCB, 0x17]
  | .rrB => [0xCB, 0x18]
  | .rrC => [0xCB, 0x19]
  | .rrD => [0xCB, 0x1A]
  | .rrE => [0xCB, 0x1B]
  | .rrH => [0xCB, 0x1C]
  | .rrL => [0xCB, 0x1D]
  | .rrAtHl => [0xCB, 0x1E]
  | .rrA => [0xCB, 0x1F]
  | .slaB => [0xCB, 0x20]
  | .slaC => [0xCB, 0x21]
  | .slaD => [0xCB, 0x22]
  | .slaE => [0xCB, 0x23]
  | .slaH => [0xCB, 0x24]
  | .slaL => [0xCB, 0x25]
  | .slaAtHl => [0xCB, 0x26]
  | .slaA => [0xCB, 0x27]
  | .sraB => [0xCB, 0x28]
  | .sraC => [0xCB, 0x29]
  | .sraD => [0xCB, 0x2A]
  | .sraE => [0xCB, 0x2B]
  | .sraH => [0xCB, 0x2C]
  | .sraL => [0xCB, 0x2D]
  | .sraAtHl => [0xCB, 0x2E]
  | .sraA => [0xCB, 0x2F]
  | .swapB => [0xCB, 0x30]
  | .swapC => [0xCB, 0x31]
  | .swapD => [0xCB, 0x32]
  | .swapE => [0xCB, 0x33]
  | .swapH => [0xCB, 0x34]
  | .swapL => [0xCB, 0x35]
  | .swapAtHl => [0xCB, 0x36]
  | .swapA => [0xCB, 0x37]
  | .srlB => [0xCB, 0x38]
  | .srlC => [0xCB, 0x39]
  | .srlD => [0xCB, 0x3A]
  | .srlE => [0xCB, 0x3B]
  | .srlH => [0xCB, 0x3C]
  | .srlL => [0xCB, 0x3D]
  | .srlAtHl => [0xCB, 0x3E]
  | .srlA => [0xCB, 0x3F]
  | .bit0B => [0xCB, 0x40]
  | .bit0C => [0xCB, 0x41]
  | .bit0D => [0xCB, 0x42]
  | .bit0E => [0xCB, 0x43]
  | .bit0H => [0xCB, 0x44]
  | .bit0L => [0xCB, 0x45]
  | .bit0AtHl => [0xCB, 0x46]
  | .bit0A => [0xCB, 0x47]
  | .bit1B => [0xCB, 0x48]
  | .bit1C => [0xCB, 0x49]
  | .bit1D => [0xCB, 0x4A]
  | .bit1E => [0xCB, 0x4B]
  | .bit1H => [0xCB, 0x4C]
  | .bit1L => [0xCB, 0x4D]
  | .bit1AtHl => [0xCB, 0x4E]
  | .bit1A => [0xCB, 0x4F]
  | .bit2B => [0xCB, 0x50]
  | .bit2C => [0xCB, 0x51]
  | .bit2D => [0xCB, 0x52]
  | .bit2E => [0xCB, 0x53]
  | .bit2H => [0xCB, 0x54]
  | .bit2L => [0xCB, 0x55]
  | .bit2AtHl => [0xCB, 0x56]
  | .bit2A => [0xCB, 0x57]
  | .bit3B => [0xCB, 0x58]
  | .bit3C => [0xCB, 0x59]
  | .bit3D => [0xCB, 0x5A]
  | .bit3E => [0xCB, 0x5B]
  | .bit3H => [0xCB, 0x5C]
  | .bit3L => [0xCB, 0x5D]
  | .bit3AtHl => [0xCB, 0x5E]
  | .bit3A => [0xCB, 0x5F]
  | .bit4B => [0xCB, 0x60]
  | .bit4C => [0xCB, 0x61]
  | .bit4D => [0xCB, 0x62]
  | .bit4E => [0xCB, 0x63]
  | .bit4H => [0xCB, 0x64]
  | .bit4L => [0xCB, 0x65]
  | .bit4AtHl => [0xCB, 0x66]
  | .bit4A => [0xCB, 0x67]
  | .bit5B => [0xCB, 0x68]
  | .bit5C => [0xCB, 0x69]
  | .bit5D => [0xCB, 0x6A]
  | .bit5E => [0xCB, 0x6B]
  | .bit5H => [0xCB, 0x6C]
  | .bit5L => [0xCB, 0x6D]
  | .bit5AtHl => [0xCB, 0x6E]
  | .bit5A => [0xCB, 0x6F]
  | .bit6B => [0xCB, 0x70]
  | .bit6C => [0xCB, 0x71]
  | .bit6D => [0xCB, 0x72]
  | .bit6E => [0xCB, 0x73]
  | .bit6H => [0xCB, 0x74]
  | .bit6L => [0xCB, 0x75]
  | .bit6AtHl => [0xCB, 0x76]
  | .bit6A => [0xCB, 0x77]
  | .bit7B => [0xCB, 0x78]
  | .bit7C => [0xCB, 0x79]
  | .bit7D => [0xCB, 0x7A]
  | .bit7E => [0xCB, 0x7B]
  | .bit7H => [0xCB, 0x7C]
  | .bit7L => [0xCB, 0x7D]
  | .bit7AtHl => [0xCB, 0x7E]
  | .bit7A => [0xCB, 0x7F]
  | .res0B => [0xCB, 0x80]
  | .res0C => [0xCB, 0x81]
  | .res0D => [0xCB, 0x82]
  | .res0E => [0xCB, 0x83]
  | .res0H => [0xCB, 0x84]
  | .res0L => [0xCB, 0x85]
  | .res0AtHl => [0xCB, 0x86]
  | .res0A => [0xCB, 0x87]
  | .res1B => [0xCB, 0x88]
  | .res1C => [0xCB, 0x89]
  | .res1D => [0xCB, 0x8A]
  | .res1E => [0xCB, 0x8B]
  | .res1H => [0xCB, 0x8C]
  | .res1L => [0xCB, 0x8D]
  | .res1AtHl => [0xCB, 0x8E]
  | .res1A => [0xCB, 0x8F]
  | .res2B => [0xCB, 0x90]
  | .res2C => [0xCB, 0x91]
  | .res2D => [0xCB, 0x92]
  | .res2E => [0xCB, 0x93]
  | .res2H => [0xCB, 0x94]
  | .res2L => [0xCB, 0x95]
  | .res2AtHl => [0xCB, 0x96]
  | .res2A => [0xCB, 0x97]
  | .res3B => [0xCB, 0x98]
  | .res3C => [0xCB, 0x99]
  | .res3D => [0xCB, 0x9A]
  | .res3E => [0xCB, 0x9B]
  | .res3H => [0xCB, 0x9C]
  | .res3L => [0xCB, 0x9D]
  | .res3AtHl => [0xCB, 0x9E]
  | .res3A => [0xCB, 0x9F]
  | .res4B => [0xCB, 0xA0]
  | .res4C => [0xCB, 0xA1]
  | .res4D => [0xCB, 0xA2]
  | .res4E => [0xCB, 0xA3]
  | .res4H => [0xCB, 0xA4]
  | .res4L => [0xCB, 0xA5]
  | .res4AtHl => [0xCB, 0xA6]
  | .res4A => [0xCB, 0xA7]
  | .res5B => [0xCB, 0xA8]
  | .res5C => [0xCB, 0xA9]
  | .res5D => [0xCB, 0xAA]
  | .res5E => [0xCB, 0xAB]
  | .res5H => [0xCB, 0xAC]
  | .res5L => [0xCB, 0xAD]
  | .res5AtHl => [0xCB, 0xAE]
  | .res5A => [0xCB, 0xAF]
  | .res6B => [0xCB, 0xB0]
  | .res6C => [0xCB, 0xB1]
  | .res6D => [0xCB, 0xB2]
  | .res6E => [0xCB, 0xB3]
  | .res6H => [0xCB, 0xB4]
  | .res6L => [0xCB, 0xB5]
  | .res6AtHl => [0xCB, 0xB6]
  | .res6A => [0xCB, 0xB7]
  | .res7B => [0xCB, 0xB8]
  | .res7C => [0xCB, 0xB9]
  | .res7D => [0xCB, 0xBA]
  | .res7E => [0xCB, 0xBB]
  | .res7H => [0xCB, 0xBC]
  | .res7L => [0xCB, 0xBD]
  | .res7AtHl => [0xCB, 0xBE]
  | .res7A => [0xCB, 0xBF]
  | .set0B => [0xCB, 0xC0]
  | .set0C => [0xCB, 0xC1]
  | .set0D => [0xCB, 0xC2]
  | .set0E => [0xCB, 0xC3]
  | .set0H => [0xCB, 0xC4]
  | .set0L => [0xCB, 0xC5]
  | .set0AtHl => [0xCB, 0xC6]
  | .set0A => [0xCB, 0xC7]
  | .set1B => [0xCB, 0xC8]
  | .set1C => [0xCB, 0xC9]
  | .set1D => [0xCB, 0xCA]
  | .set1E => [0xCB, 0xCB]
  | .set1H => [0xCB, 0xCC]
  | .set1L => [0xCB, 0xCD]
  | .set1AtHl => [0xCB, 0xCE]
  | .set1A => [0xCB, 0xCF]
  | .set2B => [0xCB, 0xD0]
  | .set2C => [0xCB, 0xD1]
  | .set2D => [0xCB, 0xD2]
  | .set2E => [0xCB, 0xD3]
  | .set2H => [0xCB, 0xD4]
  | .set2L => [0xCB, 0xD5]
  | .set2AtHl => [0xCB, 0xD6]
  | .set2A => [0xCB, 0xD7]
  | .set3B => [0xCB, 0xD8]
  | .set3C => [0xCB, 0xD9]
  | .set3D => [0xCB, 0xDA]
  | .set3E => [0xCB, 0xDB]
  | .set3H => [0xCB, 0xDC]
  | .set3L => [0xCB, 0xDD]
  | .set3AtHl => [0xCB, 0xDE]
  | .set3A => [0xCB, 0xDF]
  | .set4B => [0xCB, 0xE0]
  | .set4C => [0xCB, 0xE1]
  | .set4D => [0xCB, 0xE2]
  | .set4E => [0xCB, 0xE3]
  | .set4H => [0xCB, 0xE4]
  | .set4L => [0xCB, 0xE5]
  | .set4AtHl => [0xCB, 0xE6]
  | .set4A => [0xCB, 0xE7]
  | .set5B => [0xCB, 0xE8]
  | .set5C => [0xCB, 0xE9]
  | .set5D => [0xCB, 0xEA]
  | .set5E => [0xCB, 0xEB]
  | .set5H => [0xCB, 0xEC]
  | .set5L => [0xCB, 0xED]
  | .set5AtHl => [0xCB, 0xEE]
  | .set5A => [0xCB, 0xEF]
  | .set6B => [0xCB, 0xF0]
  | .set6C => [0xCB, 0xF1]
  | .set6D => [0xCB, 0xF2]
  | .set6E => [0xCB, 0xF3]
  | .set6H => [0xCB, 0xF4]
  | .set6L => [0xCB, 0xF5]
  | .set6AtHl => [0xCB, 0xF6]
  | .set6A => [0xCB, 0xF7]
  | .set7B => [0xCB, 0xF8]
  | .set7C => [0xCB, 0xF9]
  | .set7D => [0xCB, 0xFA]
  | .set7E => [0xCB, 0xFB]
  | .set7H => [0xCB, 0xFC]
  | .set7L => [0xCB, 0xFD]
  | .set7AtHl => [0xCB, 0xFE]
  | .set7A => [0xCB, 0xFF]

end Sys2Proof
end

