-- ==== Sys2Proof/Config.lean ====
section
/-! DEFINITION. What an implementation fixes (rule R8): the constants the spec states or decides, the two
launch parameters a model takes as arguments (plain data, held by State and changed by no step), and the one
opaque free value, the choice among pending events of equal due tick. -/

namespace Sys2Proof.Config

/-- Ticks charged by one bus access, in both speed modes (rules R8, R210, R211, R212). -/
def ticksPerAccess : Nat := 4

/-- Ticks of one internal machine cycle (rules R8, R312; decision D3). -/
def ticksPerInternal : Nat := 4

/-- The delay of the event that EI schedules (rule R921). -/
def enableImeDelay : Nat := 4

/-- The most events that may be pending (rules R8, R143, R1003). -/
def schedCapacity : Nat := 64

/-- The address of the interrupt-request register IF (rules R121, R240, R1086). -/
def ifAddr : Word := 0xFF0F#16

/-- The address of the interrupt-enable register IE (rules R120, R240, R1086). -/
def ieAddr : Word := 0xFFFF#16

/-- The bits of IF that are always 1 (rule R121). -/
def ifHighBits : Byte := 0xE0#8

/-- The five source bits of IE and IF (rule R123). -/
def sourceMask : Byte := 0x1F#8

/-- DESIGN CHOICE, unsafe (log entry 2): what an address of the environment's memory that nothing has written
reads as. It is the initial content of the reference RAM of decision D31 (rule R201 leaves the byte a draw). -/
def unlistedByte : Byte := 0x00#8

/-- A FREE VALUE (rule R1064, decision D12; log entry 4): which of the pending events of least due tick fires
first, once the environment's own list of choices is used up. It is applied to a counter of the State. -/
opaque tieBreak : Nat → Nat

/-- The launch parameters of rule R8 that the spec leaves open and the block reads. -/
structure Params where
  /-- HALT_SKIP_CAP: the most events one halt skip advances through (rules R8, R1004, decision D13). -/
  haltSkipCap : Nat
  /-- HALT_WAKE_DISPATCH_IME0: whether a wake from halt with IME clear dispatches (rules R8, R910, D4). -/
  haltWakeDispatchIme0 : Bool
  deriving DecidableEq, Repr

/-- DESIGN CHOICE (log entry 6): the parameters State.reset takes: a large cap (the spec: any positive integer)
and the spec's default false for the wake with IME clear. -/
def defaultParams : Params := ⟨1048576, false⟩

end Sys2Proof.Config
end

