-- ==== Sys2Proof/Machine/State.lean ====
section
/-! DEFINITION. The state of the block as plain data: the register file and flags, the interrupt controller, the
CPU control state, the scheduler, and the environment as the block meets it (its memory and its coming answers). -/

namespace Sys2Proof.Machine

/-- The seven 8-bit registers, sp and pc (rule R100). The pairs bc, de, hl, af are views of them (rule R101). -/
structure Registers where
  a : Byte
  b : Byte
  c : Byte
  d : Byte
  e : Byte
  h : Byte
  l : Byte
  sp : Word
  pc : Word
  deriving DecidableEq, Repr

/-- The four independent flags Z, N, H, C (rule R110). -/
structure Flags where
  z : Bool
  n : Bool
  h : Bool
  c : Bool
  deriving DecidableEq, Repr

/-- The event identifiers (rule R140): the eleven names of the spec, and room for those a new peripheral adds. -/
inductive EventId where
  | displayMode
  | timerTick
  | enableInterrupts
  | audioPhase1
  | audioPhase2
  | audioPhase3
  | audioSample
  | frameSequencer
  | timerReload
  | dma
  | serialClock
  | other (n : Nat)
  deriving DecidableEq, Repr

/-- A callback (rule R142): the core's own EnableIme (rule R1070), or one the environment defines. The tag only
names it; what an environment callback does is drawn from the environment's list when it runs (rule R1068). -/
inductive Callback where
  | enableIme
  | env (tag : Nat)
  deriving DecidableEq, Repr

/-- A pending scheduler event (rule R142). -/
structure Event where
  id : EventId
  dueTick : Nat
  callback : Callback
  seq : Nat
  deriving DecidableEq, Repr

/-- One thing the environment may do to the block or to its own state, inside a callback or while it handles a
bus write (rules R1010, R1068, R1087). -/
inductive EnvAct where
  /-- requestInterrupt(k) (rule R1010). -/
  | request (k : Fin 5)
  /-- addEventRelative with a callback of the environment's (rules R1061, R1068). -/
  | add (id : EventId) (delta : Nat) (tag : Nat)
  /-- cancelEventsById (rules R1062, R1068). -/
  | cancel (id : EventId)
  /-- the environment changes a byte of its own memory (rule R1068, part d). -/
  | poke (addr : Word) (v : Byte)
  /-- the environment sets its input speedSwitchArmed (rules R915, R1087). -/
  | arm (armed : Bool)
  deriving DecidableEq, Repr

/-- One thing the environment may do while it answers a bus read: side effects in its own state (rule R1087) and
requestInterrupt (rule R1010). No event is added or cancelled there. -/
inductive ReadAct where
  /-- requestInterrupt(k) (rule R1010). -/
  | request (k : Fin 5)
  /-- the environment changes a byte of its own memory (rules R254, R1087). -/
  | poke (addr : Word) (v : Byte)
  /-- the environment sets its input speedSwitchArmed (rules R915, R1087). -/
  | arm (armed : Bool)
  deriving DecidableEq, Repr

/-- The environment's answer to one bus read at an address of its own (rules R201, R254, R1087): the byte it
returns (none: the byte its memory holds) and what it does besides. -/
structure ReadMove where
  answer : Option Byte
  acts : List ReadAct
  deriving DecidableEq, Repr

/-- The environment's handling of one bus write at an address of its own (rules R201, R1087): whether its memory
takes the byte, and what it does besides. -/
structure WriteMove where
  store : Bool
  acts : List EnvAct
  deriving DecidableEq, Repr

/-- What the block hands to the outside: its bus accesses and the callbacks it ran, each with its tick
(rules R260, R1060, R1087). -/
inductive Observation where
  | read (tick : Nat) (addr : Word) (v : Byte)
  | write (tick : Nat) (addr : Word) (v : Byte)
  | callback (tick : Nat) (id : EventId) (lateTicks : Nat)
  deriving DecidableEq, Repr

/-- The bytes behind the environment's addresses: (address, byte) pairs, addresses strictly rising, no entry
equal to what an unlisted address reads as (Memory.wf in Machine/Ops.lean). -/
abbrev Memory := List Host.Cell

/-- The environment as the block meets it (rules R4, R201, R1087). Its coming moves are lists, oldest first; a
list that is used up means that the environment does nothing of its own: its memory is then the reference RAM of
decision D31, and its callbacks have no effect (log entry 3). -/
structure Environment where
  mem : Memory
  reads : List ReadMove
  writes : List WriteMove
  callbacks : List (List EnvAct)
  /-- The coming choices among events of equal due tick (rule R1064). -/
  ties : List Nat
  /-- How many such choices were taken from the free value Config.tieBreak. -/
  tieDraws : Nat
  /-- The environment's input speedSwitchArmed, read by STOP (rules R8, R915); at launch: log entry 17. -/
  speedSwitchArmed : Bool
  /-- What the block has handed out so far, newest first. -/
  log : List Observation
  deriving DecidableEq, Repr

/-- Running or Halted (rule R132). -/
inductive CpuMode where
  | running
  | halted
  deriving DecidableEq, Repr

/-- The four fatal reasons with their diagnostics (rule R1000). -/
inductive FatalReason where
  | unimplementedOpcode (op : Byte) (addr : Word)
  | schedulerCapacityExceeded (id : EventId)
  | haltSkipStuck
  | emptyHeapPop
  deriving DecidableEq, Repr

/-- Why a step ends in a fault. -/
inductive Fault where
  /-- Raised by step in a broken state: execute has no step there (rules R315, R1001, decision D20).
  Safe: the block is stopped for good, and the state it stopped in is kept as the last next state. -/
  | broken (reason : Option FatalReason)
  /-- Raised by the speed switch for a negative remaining delay, which the spec says a model faults on
  (rule R1080, U15). Safe: it needs an event already overdue outside the tick loop, which no run has. -/
  | negativeRemaining (id : EventId)
  deriving DecidableEq, Repr

/-- Why a step is refused. -/
inductive Refusal where
  /-- Raised by exec for an instruction that has no meaning yet; safe. No arm of this model uses it. -/
  | notModelled (mnemonic : String)
  /-- Raised by STOP when the speed switch is not armed (rules R915, R1006, decision D8). Safe: the spec
  refuses the low-power stop mode by name. -/
  | stopWithoutSpeedSwitch
  /-- Raised by the speed switch when two pending events share an affected id (rule R1081, U14). Safe: the
  spec says that a model refuses such a switch. -/
  | duplicateAffectedEvent (id : EventId)
  deriving DecidableEq, Repr

/-- The whole state of the block. -/
structure State where
  regs : Registers
  flags : Flags
  /-- IE, the interrupt-enable mask (rule R120). -/
  ie : Byte
  /-- IF, the interrupt-request mask (rule R121). -/
  ifr : Byte
  /-- IME, the master enable (rule R122). -/
  ime : Bool
  /-- Internal-cycle ticks accrued and not yet charged (rule R130). -/
  pendingTicks : Nat
  /-- The next opcode fetch does not advance pc (rule R131). -/
  haltBug : Bool
  cpuMode : CpuMode
  /-- The broken flag and its reason (rule R133). -/
  broken : Bool
  brokenReason : Option FatalReason
  /-- Ticks charged since this execute began, its return value (rule R134). -/
  ticksThisCall : Nat
  /-- The address this execute fetched its opcode from (rule R310, for rule R1002's diagnostic). -/
  fetchAddr : Word
  /-- The tick counter (rule R141). -/
  currentTick : Nat
  /-- The pending events, in the order they were added (rule R143: a multiset). -/
  events : List Event
  /-- The sequence number of the next added event (rule R142). -/
  nextSeq : Nat
  /-- The speed mode (rule R146). -/
  doubleSpeed : Bool
  env : Environment
  /-- The launch parameters (rule R8); no step changes them. -/
  params : Config.Params
  deriving DecidableEq, Repr

/-- What a meaning or a step answers. -/
abbrev Result := Host.Outcome State Fault Refusal

/-- The DMG post-boot registers of decision D9: a launch profile the spec names. -/
def Registers.dmgPostBoot : Registers :=
  { a := 0x01#8, b := 0x00#8, c := 0x13#8, d := 0x00#8, e := 0xD8#8, h := 0x01#8, l := 0x4D#8,
    sp := 0xFFFE#16, pc := 0x0100#16 }

/-- The DMG post-boot flags of decision D9: F = 0xB0. -/
def Flags.dmgPostBoot : Flags := { z := true, n := false, h := true, c := true }

/-- The CGB post-boot registers of decision D9: a launch profile the spec names. -/
def Registers.cgbPostBoot : Registers :=
  { a := 0x11#8, b := 0x00#8, c := 0x00#8, d := 0xFF#8, e := 0x56#8, h := 0x00#8, l := 0x0D#8,
    sp := 0xFFFE#16, pc := 0x0100#16 }

/-- The CGB post-boot flags of decision D9: F = 0x80. -/
def Flags.cgbPostBoot : Flags := { z := true, n := false, h := false, c := false }

/-- The environment State.reset is launched with: nothing in its memory and no move of its own lined up (log entry 3).
DESIGN CHOICE (log entry 17): its input speedSwitchArmed starts at false; rules R8, R150, R915, R1087 and R1200 give
it no value at launch. -/
def Environment.idle : Environment :=
  { mem := [], reads := [], writes := [], callbacks := [], ties := [], tieDraws := 0,
    speedSwitchArmed := false, log := [] }

/-- The reset values of rules R150 and R1200 around what the launch chooses: INIT_REGS, the parameters and the
environment with its memory contents (rules R201, R1087); no initial event, and nothing handed out yet. -/
def State.init (r : Registers) (f : Flags) (p : Config.Params) (e : Environment) : State :=
  { regs := r, flags := f, ie := 0x00#8, ifr := 0xE0#8, ime := false, pendingTicks := 0, haltBug := false,
    cpuMode := .running, broken := false, brokenReason := none, ticksThisCall := 0, fetchAddr := 0x0000#16,
    currentTick := 0, events := [], nextSeq := 0, doubleSpeed := false, env := { e with log := [] }, params := p }

/-- The state right after reset (rules R150, R1200). DESIGN CHOICE: INIT_REGS is the spec's named profile DMG
post-boot (log entry 1), and the launch's environment is Environment.idle (log entries 2, 3 and 17). -/
def State.reset : State :=
  State.init Registers.dmgPostBoot Flags.dmgPostBoot Config.defaultParams Environment.idle

end Sys2Proof.Machine
end

