-- ==== Sys2Proof/Machine/Ops.lean ====
section
/-! DEFINITION. The shared operations: memory, registers, the interrupt signals, the scheduler, the bus, the stack,
fetching an instruction, interrupt dispatch (the block's one exception entry), the halt skip and the speed switch.
An operation named ...Then goes on with its last argument unless a fatal condition has ended the step (R1001). -/

namespace Sys2Proof.Machine

/-! ### Memory -/

/-- The byte of a memory at an address; an unlisted address reads as Config.unlistedByte (log entry 2). -/
def Memory.read : Memory → Nat → Byte
  | [], _ => Config.unlistedByte
  | (k, v) :: m, x => if x = k then v else Memory.read m x

/-- A memory after one byte is written, in canonical form: writing the unlisted byte removes the entry. -/
def Memory.write : Memory → Nat → Byte → Memory
  | [], x, v => if v = Config.unlistedByte then [] else [(x, v)]
  | (k, w) :: m, x, v =>
    if x < k then
      (if v = Config.unlistedByte then (k, w) :: m else (x, v) :: (k, w) :: m)
    else if x = k then
      (if v = Config.unlistedByte then m else (x, v) :: m)
    else (k, w) :: Memory.write m x v

/-- The canonical form: addresses strictly rising inside the 65536 bytes of rule R200, no entry equal to what an
unlisted address reads as. -/
abbrev Memory.wf (m : Memory) : Prop :=
  m.Pairwise (fun x y => x.1 < y.1) ∧ ∀ x ∈ m, x.1 < 65536 ∧ x.2 ≠ Config.unlistedByte

/-! ### Registers -/

/-- r8[r] (rules R10, R330). -/
def Registers.get8 (g : Registers) : Reg8 → Byte
  | .b => g.b | .c => g.c | .d => g.d | .e => g.e | .h => g.h | .l => g.l | .a => g.a

/-- r8[r] <- v (rules R10, R330). -/
def Registers.set8 (g : Registers) (v : Byte) : Reg8 → Registers
  | .b => { g with b := v } | .c => { g with c := v } | .d => { g with d := v } | .e => { g with e := v }
  | .h => { g with h := v } | .l => { g with l := v } | .a => { g with a := v }

/-- r16[rp] (rules R101, R331): a pair is a view of its two registers. -/
def Registers.get16 (g : Registers) : Reg16 → Word
  | .bc => Word.ofBytes g.b g.c | .de => Word.ofBytes g.d g.e | .hl => Word.ofBytes g.h g.l | .sp => g.sp

/-- r16[rp] <- v (rules R101, R331): a pair write splits into its two registers. -/
def Registers.set16 (g : Registers) (v : Word) : Reg16 → Registers
  | .bc => { g with b := v.hi, c := v.lo } | .de => { g with d := v.hi, e := v.lo }
  | .hl => { g with h := v.hi, l := v.lo } | .sp => { g with sp := v }

def State.r8 (s : State) (r : Reg8) : Byte := s.regs.get8 r

def State.setR8 (s : State) (r : Reg8) (v : Byte) : State := { s with regs := s.regs.set8 v r }

def State.r16 (s : State) (r : Reg16) : Word := s.regs.get16 r

def State.setR16 (s : State) (r : Reg16) (v : Word) : State := { s with regs := s.regs.set16 v r }

/-- hl, the address register of every [hl] operand (rule R103). -/
def State.hl (s : State) : Word := s.r16 .hl

def State.setPc (s : State) (v : Word) : State := { s with regs := { s.regs with pc := v } }

def State.setSp (s : State) (v : Word) : State := { s with regs := { s.regs with sp := v } }

def State.setFlags (s : State) (f : Flags) : State := { s with flags := f }

/-- Internal(): one internal cycle, charged after the body (rules R11, R312). -/
def State.internal (s : State) : State := { s with pendingTicks := s.pendingTicks + Config.ticksPerInternal }

/-! ### Fatal conditions -/

/-- raise Fatal(reason): the broken flag and the reason; the operations below then end the step (rule R1001). -/
def State.raiseFatal (s : State) (r : FatalReason) : State := { s with broken := true, brokenReason := some r }

/-! ### Interrupt signals -/

/-- interruptAvailable (rule R123). -/
def State.interruptAvailable (s : State) : Bool := s.ifr &&& s.ie &&& Config.sourceMask != 0x00#8

/-- interruptReady (rule R124). -/
def State.interruptReady (s : State) : Bool := s.ime && s.interruptAvailable

/-- The request bit of source k (rule R125). -/
def sourceBit (k : Nat) : Byte := 0x01#8 <<< k

/-- requestInterrupt(k) (rule R1010). -/
def State.requestInterrupt (s : State) (k : Fin 5) : State := { s with ifr := s.ifr ||| sourceBit k.val }

/-- select(): the least k in 0..4 with bit k of IF and IE set (rule R1020). -/
def State.selectSource (s : State) : Option Nat := [0, 1, 2, 3, 4].find? (fun k => (s.ifr &&& s.ie).getLsbD k)

/-- The vector of source k (rules R125, R1020). -/
def sourceVector (k : Nat) : Word := BitVec.ofNat 16 (0x0040 + 8 * k)

/-! ### The scheduler -/

/-- The least due tick of a list of events, none for infinity (rule R144). -/
def leastDue : List Event → Option Nat
  | [] => none
  | e :: es =>
    match leastDue es with
    | none => some e.dueTick
    | some d => some (min e.dueTick d)

/-- nextEventTick (rule R144): recomputed where it is read, since the cached value always equals it. -/
def State.nextEventTick (s : State) : Option Nat := leastDue s.events

/-- The guard of the tick loop: currentTick ≥ nextEventTick (rule R1060). -/
def State.eventDue (s : State) : Bool :=
  match s.nextEventTick with
  | none => false
  | some d => decide (d ≤ s.currentTick)

/-- addEventRelative(id, delta, cb) (rules R1003, R1061). -/
def State.addEventRelative (s : State) (id : EventId) (delta : Nat) (cb : Callback) : State :=
  if Config.schedCapacity ≤ s.events.length then s.raiseFatal (.schedulerCapacityExceeded id)
  else
    { s with
      events := s.events ++ [{ id := id, dueTick := s.currentTick + delta, callback := cb, seq := s.nextSeq }],
      nextSeq := s.nextSeq + 1 }

/-- cancelEventsById(id) (rule R1062). -/
def State.cancelEventsById (s : State) (id : EventId) : State :=
  { s with events := s.events.filter (fun e => e.id != id) }

/-- The pending events of least due tick, oldest first. -/
def State.firstEvents (s : State) : List Event :=
  match s.nextEventTick with
  | none => []
  | some d => s.events.filter (fun e => e.dueTick == d)

/-- The next choice among events of equal due tick (rule R1064): the environment's list, then the free value
Config.tieBreak (log entry 4). -/
def State.drawTie (s : State) : Nat × State :=
  match s.env.ties with
  | t :: ts => (t, { s with env := { s.env with ties := ts } })
  | [] => (Config.tieBreak s.env.tieDraws, { s with env := { s.env with tieDraws := s.env.tieDraws + 1 } })

/-- popFirstEvent() (rules R1005, R1063, R1064): an event of least due tick, any of them when several qualify. -/
def State.popFirstEvent (s : State) : Option Event × State :=
  match s.firstEvents with
  | [] => (none, s.raiseFatal .emptyHeapPop)
  | [e] => (some e, { s with events := s.events.erase e })
  | e :: e' :: es =>
    let d := s.drawTie
    let f := (e :: e' :: es).getD (d.1 % (es.length + 2)) e
    (some f, { d.2 with events := s.events.erase f })

/-- Whether an address is owned by the core (rules R240, R241). -/
def coreOwned (x : Word) : Bool := x == Config.ifAddr || x == Config.ieAddr

/-- One act of the environment (rules R1068, R1087). Its memory lies behind its own addresses only. -/
def State.act (s : State) : EnvAct → State
  | .request k => s.requestInterrupt k
  | .add id delta tag => s.addEventRelative id delta (.env tag)
  | .cancel id => s.cancelEventsById id
  | .poke x v => if coreOwned x then s else { s with env := { s.env with mem := s.env.mem.write x.toNat v } }
  | .arm b => { s with env := { s.env with speedSwitchArmed := b } }

/-- The acts of one environment move, in order; a fatal condition ends them (rule R1001). -/
def State.applyActs (s : State) : List EnvAct → State
  | [] => s
  | x :: xs => let t := s.act x; if t.broken then t else t.applyActs xs

/-- The environment's next callback effect is taken from its list (rule R1068). -/
def State.drawCallback (s : State) : List EnvAct × State :=
  match s.env.callbacks with
  | [] => ([], s)
  | xs :: rest => (xs, { s with env := { s.env with callbacks := rest } })

/-- An observation is handed to the outside (rule R1087). -/
def State.observe (s : State) (o : Observation) : State := { s with env := { s.env with log := o :: s.env.log } }

/-- ev.callback(lateTicks) (rules R1060, R1068, R1070): EnableIme sets IME; an environment callback does what the
environment's next move says. -/
def State.runCallback (s : State) (e : Event) : State :=
  let s1 := s.observe (.callback s.currentTick e.id (s.currentTick - e.dueTick))
  match e.callback with
  | .enableIme => { s1 with ime := true }
  | .env _ => let d := s1.drawCallback; d.2.applyActs d.1

/-- One round of the tick loop: pop and run (rule R1060). -/
def State.runFirstEvent (s : State) : State :=
  match s.popFirstEvent with
  | (some e, t) => t.runCallback e
  | (none, t) => t

/-- The tick loop of rule R1060. nextEventTick is read again on every round; a fatal condition ends it. -/
def runDue : Nat → State → State
  | 0, s => s
  | n + 1, s =>
    if s.eventDue then
      let t := s.runFirstEvent
      if t.broken then t else runDue n t
    else s

/-- A bound on the rounds of one tick loop: each round pops one event, and only a callback move of the environment
adds events (Laws/Scheduler.lean proves that the loop never stops short of it). -/
def State.dueFuel (s : State) : Nat := s.events.length + (s.env.callbacks.map List.length).sum

/-- tick(n) (rule R1060). -/
def State.tick (s : State) (n : Nat) : State :=
  let t := { s with currentTick := s.currentTick + n, ticksThisCall := s.ticksThisCall + n }
  runDue t.dueFuel t

def tickThen (n : Nat) (k : State → Result) (s : State) : Result :=
  let t := s.tick n
  if t.broken then .next t else k t

/-! ### The bus -/

/-- The byte at an address as the bus shows it without a move of the environment's own: IF, IE, or the
environment's memory (rules R201, R241). -/
def State.peek (s : State) (x : Word) : Byte :=
  if x = Config.ifAddr then s.ifr else if x = Config.ieAddr then s.ie else s.env.mem.read x.toNat

/-- What the environment may do in a read is among what it may do elsewhere (rules R1010, R1087). -/
def ReadAct.toEnvAct : ReadAct → EnvAct
  | .request k => .request k
  | .poke x v => .poke x v
  | .arm b => .arm b

/-- The environment's answer to a read at an address of its own (rules R201, R254, R1087). -/
def State.envRead (s : State) (x : Word) : Byte × State :=
  match s.env.reads with
  | [] => (s.env.mem.read x.toNat, s)
  | r :: rest =>
    let v := r.answer.getD (s.env.mem.read x.toNat)
    (v, { s with env := { s.env with reads := rest } }.applyActs (r.acts.map ReadAct.toEnvAct))

/-- read8(addr) after its ticks (rules R210, R241): a core-owned address answers without a side effect. -/
def State.busRead (s : State) (x : Word) : Byte × State :=
  let r :=
    if x = Config.ifAddr then (s.ifr, s)
    else if x = Config.ieAddr then (s.ie, s)
    else s.envRead x
  (r.1, r.2.observe (.read s.currentTick x r.1))

/-- The environment's handling of a write at an address of its own (rules R201, R1087). -/
def State.envWrite (s : State) (x : Word) (v : Byte) : State :=
  match s.env.writes with
  | [] => { s with env := { s.env with mem := s.env.mem.write x.toNat v } }
  | w :: rest =>
    let m := if w.store then s.env.mem.write x.toNat v else s.env.mem
    { s with env := { s.env with mem := m, writes := rest } }.applyActs w.acts

/-- write8(addr, v) after its ticks (rules R211, R241): IF keeps its high bits at 1, IE stores all eight bits. -/
def State.busWrite (s : State) (x : Word) (v : Byte) : State :=
  let t := s.observe (.write s.currentTick x v)
  if x = Config.ifAddr then { t with ifr := v ||| Config.ifHighBits }
  else if x = Config.ieAddr then { t with ie := v }
  else t.envWrite x v

/-- MemRead(addr, 1) (rule R210): tick(4), then the byte is sampled. -/
def State.memRead (s : State) (x : Word) : Byte × State :=
  let t := s.tick Config.ticksPerAccess
  if t.broken then (0x00#8, t) else t.busRead x

/-- MemWrite(addr, 1, v) (rule R211): tick(4), then the write is applied. -/
def State.memWrite (s : State) (x : Word) (v : Byte) : State :=
  let t := s.tick Config.ticksPerAccess
  if t.broken then t else t.busWrite x v

def readThen (x : Word) (k : Byte → State → Result) (s : State) : Result :=
  let r := s.memRead x
  if r.2.broken then .next r.2 else k r.1 r.2

def writeThen (x : Word) (v : Byte) (k : State → Result) (s : State) : Result :=
  let t := s.memWrite x v
  if t.broken then .next t else k t

/-! ### The stack -/

/-- Push8(v) (rule R230): sp is decremented before the write. -/
def push8Then (v : Byte) (k : State → Result) (s : State) : Result :=
  let t := s.setSp (s.regs.sp - 1)
  writeThen t.regs.sp v k t

/-- Pop8() (rule R231): sp is incremented after the read. -/
def pop8Then (k : Byte → State → Result) (s : State) : Result :=
  readThen s.regs.sp (fun v t => k v (t.setSp (t.regs.sp + 1))) s

/-- Push16(v) (rule R232): the high byte first, then the low byte. -/
def push16Then (v : Word) (k : State → Result) (s : State) : Result :=
  push8Then v.hi (push8Then v.lo k) s

/-- Pop16() (rule R233): the low byte first, then the high byte. -/
def pop16Then (k : Word → State → Result) (s : State) : Result :=
  pop8Then (fun lo => pop8Then (fun hi => k (Word.ofBytes hi lo))) s

/-! ### Fetching an instruction -/

/-- Fetch8() (rule R220). -/
def fetch8Then (k : Byte → State → Result) (s : State) : Result :=
  readThen s.regs.pc (fun v t => k v (t.setPc (t.regs.pc + 1))) s

/-- pc after the opcode fetch: not advanced under the halt bug, which it ends (rule R311). -/
def State.afterOpcodeFetch (s : State) : State :=
  if s.haltBug then { s with haltBug := false } else s.setPc (s.regs.pc + 1)

/-- OpcodeFetch() (rule R311). -/
def opcodeFetchThen (k : Byte → State → Result) (s : State) : Result :=
  readThen s.regs.pc (fun v t => k v t.afterOpcodeFetch) s

/-- The fetch of a whole instruction (rules R310, R316): the opcode, then the secondary or operand bytes in
ascending address order, before anything else the instruction does. -/
def fetchInstrThen (k : Instr → State → Result) (s : State) : Result :=
  opcodeFetchThen (fun b0 t =>
    match instrLength b0 with
    | 3 => fetch8Then (fun b1 => fetch8Then (fun b2 => k (decodeBytes b0 b1 b2))) t
    | 2 => fetch8Then (fun b1 => k (decodeBytes b0 b1 0x00#8)) t
    | _ => k (decodeBytes b0 0x00#8 0x00#8) t) s

/-! ### Taking an interrupt: the block's exception entry -/

/-- The selection step of dispatch (rules R1020, R1030, R1033): the vector, and the state with the selected request
bit cleared; a cancelled dispatch goes to 0x0000 and clears nothing (decision D5). -/
def State.selectAndClear (s : State) : Word × State :=
  match s.selectSource with
  | some k => (sourceVector k, { s with ifr := s.ifr &&& ~~~ sourceBit k })
  | none => (0x0000#16, s)

/-- dispatchInterrupt(fromHalt) (rule R1030): both bytes of the return address are pushed separately, the vector is
chosen between them, IME is cleared, pc goes to the vector last. -/
def dispatchInterrupt (fromHalt : Bool) (s : State) : Result :=
  let ret := s.regs.pc
  let finish (vector : Word) (t : State) : Result :=
    push8Then ret.lo (tickThen 4 (fun u => .next (u.setPc vector))) { t with ime := false }
  let select (t : State) : Result :=
    let r := t.selectAndClear
    tickThen (if fromHalt then 4 else 2) (finish r.1) r.2
  tickThen 4 (push8Then ret.hi (fun t => if fromHalt then select t else tickThen 2 select t)) s

/-- The return from an interrupt handler (rules R724, R1040): pc from the stack, IME set at once. -/
def returnFromInterrupt (s : State) : Result :=
  pop16Then (fun x t => .next ({ t.setPc x with ime := true }).internal) s

/-! ### Halt -/

/-- The loop of haltSkip() (rules R1004, R1050); its first argument is how many more events it may advance
through. -/
def haltSkipLoop : Nat → State → State
  | n, s =>
    if s.interruptAvailable then s
    else
      match s.nextEventTick with
      | none => s.raiseFatal .haltSkipStuck
      | some d =>
        match n with
        | 0 => s.raiseFatal .haltSkipStuck
        | m + 1 =>
          let t := s.tick (d - s.currentTick)
          if t.broken then t else haltSkipLoop m t

/-- haltSkip() (rule R1050). -/
def haltSkipThen (k : State → Result) (s : State) : Result :=
  let t := haltSkipLoop s.params.haltSkipCap { s with cpuMode := .halted }
  if t.broken then .next t else k { t with cpuMode := .running }

/-! ### The speed switch -/

/-- affected(id) (rule R1081). -/
def affected : EventId → Bool
  | .displayMode | .audioSample | .frameSequencer => true
  | _ => false

/-- The first affected id that two pending events share, if any (rule R1081). -/
def duplicateAffected : List Event → Option EventId
  | [] => none
  | e :: es => if affected e.id && es.any (fun f => f.id == e.id) then some e.id else duplicateAffected es

/-- The remaining delay after the switch (rule R1080): halved towards double speed, doubled back. -/
def scaledDelay (doubleSpeed : Bool) (r : Nat) : Nat := if doubleSpeed then r <<< 1 else r >>> 1

/-- One affected event of the snapshot is cancelled and added again (rule R1080). -/
def State.reschedule (s : State) (late : Nat) (e : Event) : State :=
  (s.cancelEventsById e.id).addEventRelative e.id
    (scaledDelay s.doubleSpeed (e.dueTick - s.currentTick - late)) e.callback

/-- The loop of speedSwitch over the snapshot; a fatal condition ends it (rules R1001, R1080). -/
def State.rescheduleAll (s : State) (late : Nat) : List Event → State
  | [] => s
  | e :: es => let t := s.reschedule late e; if t.broken then t else t.rescheduleAll late es

/-- speedSwitch(lateTicksAtToggle) (rules R1080, R1081), with the refusal and the fault the spec names. -/
def speedSwitchThen (late : Nat) (k : State → Result) (s : State) : Result :=
  let snapshot := s.events.filter (fun e => affected e.id)
  match duplicateAffected snapshot with
  | some id => .refused (.duplicateAffectedEvent id)
  | none =>
    match snapshot.find? (fun e => decide (e.dueTick < s.currentTick + late)) with
    | some e => .fault (.negativeRemaining e.id)
    | none =>
      let t := s.rescheduleAll late snapshot
      if t.broken then .next t else k { t with doubleSpeed := !t.doubleSpeed }

/-! ### The ends of a step -/

/-- The start of execute() (rule R310). -/
def State.beginExecute (s : State) : State :=
  { s with ticksThisCall := 0, pendingTicks := 0, fetchAddr := s.regs.pc }

/-- The interrupt check (rules R310, R313, R1014): once, after the pending ticks. -/
def interruptCheck (s : State) : Result :=
  if s.interruptReady then dispatchInterrupt false s else .next s

/-- The charge of all internal cycles in one tick (rule R312, decision D32: none when there are none). -/
def chargePendingThen (k : State → Result) (s : State) : Result :=
  if 0 < s.pendingTicks then tickThen s.pendingTicks (fun t => k { t with pendingTicks := 0 }) s else k s

/-- What execute() does after the instruction body (rule R310): nothing more after a fatal condition. -/
def completeStep : Result → Result
  | .next s => if s.broken then .next s else chargePendingThen interruptCheck s
  | .fault r => .fault r
  | .refused r => .refused r

/-! ### Launch -/

/-- The launch (rules R1087, R1200): reset(INIT_REGS, initialEvents) with every register given a value, the launch
parameters, and the environment the launch chooses, its memory contents among it. The events respect the capacity
of 64 and are due now or later: a 65th is fatal as everywhere (rule R1003), and a delay is a natural number. -/
def State.launch (r : Registers) (f : Flags) (p : Config.Params) (e : Environment)
    (evs : List (EventId × Nat × Nat)) : State :=
  evs.foldl (fun s ev => s.addEventRelative ev.1 ev.2.1 (.env ev.2.2)) (State.init r f p e)

/-! ### Placing a program -/

/-- A byte placed at an address from outside the machine, without a bus access. -/
def State.placeByte (s : State) (x : Word) (v : Byte) : State :=
  if x = Config.ifAddr then { s with ifr := v ||| Config.ifHighBits }
  else if x = Config.ieAddr then { s with ie := v }
  else { s with env := { s.env with mem := s.env.mem.write x.toNat v } }

/-- Bytes placed at consecutive addresses. -/
def State.placeAt (s : State) (x : Word) : List Byte → State
  | [] => s
  | v :: vs => (s.placeByte x v).placeAt (x + 1) vs

/-- Bytes placed where the next step fetches its instruction, with all that the fetch of exactly them needs: no halt
bug, and an environment that answers the fetch of each of them from its memory (log entry 9). -/
def State.placeBytes (s : State) (bs : List Byte) : State :=
  let t := s.placeAt s.regs.pc bs
  let own := (List.range (instrLength (bs.headD 0x00#8))).filter
    (fun i => !coreOwned (s.regs.pc + BitVec.ofNat 16 i))
  let plain := own.map (fun _ => ({ answer := none, acts := [] } : ReadMove))
  { t with
    haltBug := false,
    env := { t.env with reads := if t.env.reads.isEmpty then [] else plain ++ t.env.reads } }

end Sys2Proof.Machine
end

