-- ==== Sys2Proof/Machine/Flags.lean ====
section
/-! DEFINITION. Every result and flag computation of the spec, as pure functions of the operands and the old flags:
exact natural-number arithmetic first, narrowed at the end. -/

namespace Sys2Proof.Machine

/-- A byte result with the four flags after it. -/
structure Alu8 where
  value : Byte
  flags : Flags
  deriving DecidableEq, Repr

/-- A word result with the four flags after it. -/
structure Alu16 where
  value : Word
  flags : Flags
  deriving DecidableEq, Repr

/-- getF(): the packed flag byte (rule R111). -/
def Flags.pack (f : Flags) : Byte :=
  BitVec.ofNat 8 (f.z.toNat * 128 + f.n.toNat * 64 + f.h.toNat * 32 + f.c.toNat * 16)

/-- setF(v): the flags of a byte (rule R112); bits 3..0 are discarded. -/
def Flags.unpack (v : Byte) : Flags :=
  { z := v.getLsbD 7, n := v.getLsbD 6, h := v.getLsbD 5, c := v.getLsbD 4 }

/-- cond(cc) (rule R334). -/
def Flags.holds (f : Flags) : Cond → Bool
  | .nz => !f.z | .z => f.z | .nc => !f.c | .c => f.c

/-- The low nibble of a byte as a number. -/
def lowNibble (v : Byte) : Nat := v.toNat % 16

/-- add8(x, y, cin) (rule R400). -/
def add8 (x y : Byte) (cin : Bool) : Alu8 :=
  let s := x.toNat + y.toNat + cin.toNat
  { value := BitVec.ofNat 8 s,
    flags := { z := s % 256 == 0, n := false, h := decide (15 < lowNibble x + lowNibble y + cin.toNat),
               c := decide (255 < s) } }

/-- sub8(x, y, cin) (rule R401). -/
def sub8 (x y : Byte) (cin : Bool) : Alu8 :=
  let v := BitVec.ofInt 8 ((x.toNat : Int) - y.toNat - cin.toNat)
  { value := v,
    flags := { z := v == 0x00#8, n := true, h := decide (lowNibble x < lowNibble y + cin.toNat),
               c := decide (x.toNat < y.toNat + cin.toNat) } }

/-- The flags of AND, XOR and OR (rules R422, R425, R428). -/
def logic8 (v : Byte) (h : Bool) : Alu8 := { value := v, flags := { z := v == 0x00#8, n := false, h := h, c := false } }

/-- The eight accumulator operations (rules R410 to R433): x is a, y the source, c the old carry. -/
def alu8 (op : AluOp) (x y : Byte) (c : Bool) : Alu8 :=
  match op with
  | .add => add8 x y false
  | .adc => add8 x y c
  | .sub => sub8 x y false
  | .sbc => sub8 x y c
  | .and => logic8 (x &&& y) true
  | .xor => logic8 (x ^^^ y) false
  | .or => logic8 (x ||| y) false
  | .cp => sub8 x y false

/-- 8-bit increment (rule R440): C unchanged. -/
def inc8 (v : Byte) (f : Flags) : Alu8 :=
  let r := v + 1
  { value := r, flags := { z := r == 0x00#8, n := false, h := lowNibble v == 15, c := f.c } }

/-- 8-bit decrement (rule R442): C unchanged. -/
def dec8 (v : Byte) (f : Flags) : Alu8 :=
  let r := v - 1
  { value := r, flags := { z := r == 0x00#8, n := true, h := lowNibble v == 0, c := f.c } }

/-- Decimal adjust (rule R450): both tests of the addition case read a before any correction. -/
def daa8 (x : Byte) (f : Flags) : Alu8 :=
  let high := f.c || (!f.n && decide (0x99 < x.toNat))
  let low := f.h || (!f.n && decide (9 < lowNibble x))
  let adj : Byte := (if high then 0x60#8 else 0x00#8) + (if low then 0x06#8 else 0x00#8)
  let r := if f.n then x - adj else x + adj
  { value := r, flags := { z := r == 0x00#8, n := f.n, h := false, c := high } }

/-- The result and carry-out of a rotate or shift (rules R810 to R826), from its operand and the old carry. -/
def rot8 (op : RotOp) (v : Byte) (c : Bool) : Byte × Bool :=
  let bit7 := v.getLsbD 7
  let bit0 := v.getLsbD 0
  let into (b : Bool) (k : Nat) : Byte := if b then 0x01#8 <<< k else 0x00#8
  match op with
  | .rlc => (v <<< 1 ||| into bit7 0, bit7)
  | .rrc => (v >>> 1 ||| into bit0 7, bit0)
  | .rl => (v <<< 1 ||| into c 0, bit7)
  | .rr => (v >>> 1 ||| into c 7, bit0)
  | .sla => (v <<< 1, bit7)
  | .sra => (v >>> 1 ||| v &&& 0x80#8, bit0)
  | .swap => ((v &&& 0x0F#8) <<< 4 ||| v >>> 4, false)
  | .srl => (v >>> 1, bit0)

/-- A secondary-table rotate or shift with its flags (rule R810): Z from the result. -/
def rotFlags8 (op : RotOp) (v : Byte) (c : Bool) : Alu8 :=
  let r := rot8 op v c
  { value := r.1, flags := { z := r.1 == 0x00#8, n := false, h := false, c := r.2 } }

/-- An accumulator rotate with its flags (rules R800 to R803): Z always cleared. -/
def rotAcc8 (op : RotOp) (v : Byte) (c : Bool) : Alu8 :=
  let r := rot8 op v c
  { value := r.1, flags := { z := false, n := false, h := false, c := r.2 } }

/-- The flags of BIT b (rule R830): C unchanged. -/
def bitFlags (b : Nat) (v : Byte) (f : Flags) : Flags := { z := !v.getLsbD b, n := false, h := true, c := f.c }

/-- RES b (rule R832). -/
def resBit (b : Nat) (v : Byte) : Byte := v &&& (0xFF#8 ^^^ 0x01#8 <<< b)

/-- SET b (rule R834). -/
def setBit (b : Nat) (v : Byte) : Byte := v ||| 0x01#8 <<< b

/-- 16-bit addition into hl (rule R602): Z unchanged, H from bit 11, C from bit 15. -/
def add16 (x v : Word) (f : Flags) : Alu16 :=
  { value := x + v,
    flags := { z := f.z, n := false, h := decide (0x0FFF < x.toNat % 0x1000 + v.toNat % 0x1000),
               c := decide (0xFFFF < x.toNat + v.toNat) } }

/-- sext_16 (rule R9). -/
def sext16 (e : Byte) : Word := e.signExtend 16

/-- sp plus a signed displacement (rules R603, R604): H and C from the unsigned sum with the low byte of sp. -/
def addSigned (x : Word) (e : Byte) : Alu16 :=
  { value := x + sext16 e,
    flags := { z := false, n := false, h := decide (15 < x.toNat % 16 + lowNibble e),
               c := decide (255 < x.toNat % 256 + e.toNat) } }

end Sys2Proof.Machine
end

