-- ==== Sys2Proof/Machine/Operands.lean ====
section
/-! DEFINITION. Every operand form of the spec (rules R330 to R335, R519): registers, the byte at an address, the
stack pairs with the packed flags, the high page, and the operand of the secondary table. -/

namespace Sys2Proof.Machine

/-- r16[rp2] (rules R101, R332): af reads the flags through getF(). -/
def State.stackPair (s : State) : StackPair → Word
  | .bc => s.r16 .bc
  | .de => s.r16 .de
  | .hl => s.r16 .hl
  | .af => Word.ofBytes s.regs.a s.flags.pack

/-- r16[rp2] <- v (rules R101, R112, R332): af writes the flags through setF(). -/
def State.setStackPair (s : State) (v : Word) : StackPair → State
  | .bc => s.setR16 .bc v
  | .de => s.setR16 .de v
  | .hl => s.setR16 .hl v
  | .af => (s.setR8 .a v.hi).setFlags (Flags.unpack v.lo)

/-- The high-page address 0xFF00 + n (rules R335, R519). -/
def highPage (n : Byte) : Word := Word.ofBytes 0xFF#8 n

/-- The operand byte of a secondary-table instruction (rule R322): a register, or one bus read at hl. -/
def readOperandThen (z : CbOperand) (k : Byte → State → Result) (s : State) : Result :=
  match z with
  | .reg r => k (s.r8 r) s
  | .atHl => readThen s.hl k s

/-- The operand of a secondary-table instruction is written back: to its register, or by one bus write at hl. -/
def writeOperandThen (z : CbOperand) (v : Byte) (k : State → Result) (s : State) : Result :=
  match z with
  | .reg r => k (s.setR8 r v)
  | .atHl => writeThen s.hl v k s

/-- The operand of field z (rule R330). -/
def cbOperand (z : Nat) : CbOperand :=
  match z with
  | 0 => .reg .b
  | 1 => .reg .c
  | 2 => .reg .d
  | 3 => .reg .e
  | 4 => .reg .h
  | 5 => .reg .l
  | 6 => .atHl
  | _ => .reg .a

/-- The rotate or shift of field y (rule R322). -/
def cbRotOp (y : Nat) : RotOp :=
  match y with
  | 0 => .rlc
  | 1 => .rrc
  | 2 => .rl
  | 3 => .rr
  | 4 => .sla
  | 5 => .sra
  | 6 => .swap
  | _ => .srl

end Sys2Proof.Machine
end

