-- ==== Sys2Proof/Machine/Alu16.lean ====
section
/-! DEFINITION. The meanings of 16-bit arithmetic (42_alu16.md, rules R600 to R604). -/

namespace Sys2Proof.Machine

/-- INC rr (rule R600). -/
def incPair (r : Reg16) (s : State) : Result := .next (s.setR16 r (s.r16 r + 1)).internal

/-- DEC rr (rule R601). -/
def decPair (r : Reg16) (s : State) : Result := .next (s.setR16 r (s.r16 r - 1)).internal

/-- ADD HL,rr (rule R602). -/
def addHlPair (r : Reg16) (s : State) : Result :=
  let x := add16 s.hl (s.r16 r) s.flags
  .next ((s.setR16 .hl x.value).setFlags x.flags).internal

/-- ADD SP,e8 (rule R603): two internal cycles. -/
def addSpSigned (e8 : Byte) (s : State) : Result :=
  let x := addSigned s.regs.sp e8
  .next ((s.setSp x.value).setFlags x.flags).internal.internal

/-- LD HL,SP+e8 (rule R604): one internal cycle. -/
def loadHlSpSigned (e8 : Byte) (s : State) : Result :=
  let x := addSigned s.regs.sp e8
  .next ((s.setR16 .hl x.value).setFlags x.flags).internal

/-! One definition per instruction. -/

/-- INC BC (R600). -/
def execIncBc (s : State) : Result := incPair .bc s

/-- ADD HL,BC (R602). -/
def execAddHlBc (s : State) : Result := addHlPair .bc s

/-- DEC BC (R601). -/
def execDecBc (s : State) : Result := decPair .bc s

/-- INC DE (R600). -/
def execIncDe (s : State) : Result := incPair .de s

/-- ADD HL,DE (R602). -/
def execAddHlDe (s : State) : Result := addHlPair .de s

/-- DEC DE (R601). -/
def execDecDe (s : State) : Result := decPair .de s

/-- INC HL (R600). -/
def execIncHl (s : State) : Result := incPair .hl s

/-- ADD HL,HL (R602). -/
def execAddHlHl (s : State) : Result := addHlPair .hl s

/-- DEC HL (R601). -/
def execDecHl (s : State) : Result := decPair .hl s

/-- INC SP (R600). -/
def execIncSp (s : State) : Result := incPair .sp s

/-- ADD HL,SP (R602). -/
def execAddHlSp (s : State) : Result := addHlPair .sp s

/-- DEC SP (R601). -/
def execDecSp (s : State) : Result := decPair .sp s

/-- ADD SP,e8 (R603). -/
def execAddSpE8 (e8 : Byte) (s : State) : Result := addSpSigned e8 s

/-- LD HL,SP+e8 (R604). -/
def execLdHlSpE8 (e8 : Byte) (s : State) : Result := loadHlSpSigned e8 s

end Sys2Proof.Machine
end

