-- ==== Sys2Proof/Machine/Alu8.lean ====
section
/-! DEFINITION. The meanings of 8-bit arithmetic and logic (40_alu8.md, rules R410 to R453). -/

namespace Sys2Proof.Machine

/-- The accumulator operations on a source byte (rules R410 to R433): CP writes the flags only. -/
def State.accumulate (s : State) (op : AluOp) (v : Byte) : State :=
  let r := alu8 op s.regs.a v s.flags.c
  let t := s.setFlags r.flags
  if op = .cp then t else t.setR8 .a r.value

def aluReg (op : AluOp) (r : Reg8) (s : State) : Result := .next (s.accumulate op (s.r8 r))

def aluHl (op : AluOp) (s : State) : Result := readThen s.hl (fun v t => .next (t.accumulate op v)) s

def aluImm (op : AluOp) (n8 : Byte) (s : State) : Result := .next (s.accumulate op n8)

/-- INC r (rule R440). -/
def incReg (r : Reg8) (s : State) : Result :=
  let x := inc8 (s.r8 r) s.flags
  .next ((s.setR8 r x.value).setFlags x.flags)

/-- DEC r (rule R442). -/
def decReg (r : Reg8) (s : State) : Result :=
  let x := dec8 (s.r8 r) s.flags
  .next ((s.setR8 r x.value).setFlags x.flags)

/-- INC [HL] (rule R441): a read and a write, two bus accesses. -/
def incHl (s : State) : Result :=
  readThen s.hl (fun v t =>
    let x := inc8 v t.flags
    writeThen t.hl x.value (fun u => .next (u.setFlags x.flags)) t) s

/-- DEC [HL] (rule R443): a read and a write, two bus accesses. -/
def decHl (s : State) : Result :=
  readThen s.hl (fun v t =>
    let x := dec8 v t.flags
    writeThen t.hl x.value (fun u => .next (u.setFlags x.flags)) t) s

/-- DAA (rule R450). -/
def decimalAdjust (s : State) : Result :=
  let x := daa8 s.regs.a s.flags
  .next ((s.setR8 .a x.value).setFlags x.flags)

/-- CPL (rule R451). -/
def complementAcc (s : State) : Result :=
  .next ((s.setR8 .a (~~~ s.regs.a)).setFlags { s.flags with n := true, h := true })

/-- SCF (rule R452). -/
def setCarry (s : State) : Result := .next (s.setFlags { s.flags with n := false, h := false, c := true })

/-- CCF (rule R453). -/
def complementCarry (s : State) : Result :=
  .next (s.setFlags { s.flags with n := false, h := false, c := !s.flags.c })

/-! One definition per instruction. -/

/-- INC B (R440). -/
def execIncB (s : State) : Result := incReg .b s

/-- DEC B (R442). -/
def execDecB (s : State) : Result := decReg .b s

/-- INC C (R440). -/
def execIncC (s : State) : Result := incReg .c s

/-- DEC C (R442). -/
def execDecC (s : State) : Result := decReg .c s

/-- INC D (R440). -/
def execIncD (s : State) : Result := incReg .d s

/-- DEC D (R442). -/
def execDecD (s : State) : Result := decReg .d s

/-- INC E (R440). -/
def execIncE (s : State) : Result := incReg .e s

/-- DEC E (R442). -/
def execDecE (s : State) : Result := decReg .e s

/-- INC H (R440). -/
def execIncH (s : State) : Result := incReg .h s

/-- DEC H (R442). -/
def execDecH (s : State) : Result := decReg .h s

/-- DAA (R450). -/
def execDaa (s : State) : Result := decimalAdjust s

/-- INC L (R440). -/
def execIncL (s : State) : Result := incReg .l s

/-- DEC L (R442). -/
def execDecL (s : State) : Result := decReg .l s

/-- CPL (R451). -/
def execCpl (s : State) : Result := complementAcc s

/-- INC [HL] (R441). -/
def execIncAtHl (s : State) : Result := incHl s

/-- DEC [HL] (R443). -/
def execDecAtHl (s : State) : Result := decHl s

/-- SCF (R452). -/
def execScf (s : State) : Result := setCarry s

/-- INC A (R440). -/
def execIncA (s : State) : Result := incReg .a s

/-- DEC A (R442). -/
def execDecA (s : State) : Result := decReg .a s

/-- CCF (R453). -/
def execCcf (s : State) : Result := complementCarry s

/-- ADD A,B (R410). -/
def execAddAB (s : State) : Result := aluReg .add .b s

/-- ADD A,C (R410). -/
def execAddAC (s : State) : Result := aluReg .add .c s

/-- ADD A,D (R410). -/
def execAddAD (s : State) : Result := aluReg .add .d s

/-- ADD A,E (R410). -/
def execAddAE (s : State) : Result := aluReg .add .e s

/-- ADD A,H (R410). -/
def execAddAH (s : State) : Result := aluReg .add .h s

/-- ADD A,L (R410). -/
def execAddAL (s : State) : Result := aluReg .add .l s

/-- ADD A,[HL] (R411). -/
def execAddAAtHl (s : State) : Result := aluHl .add s

/-- ADD A,A (R410). -/
def execAddAA (s : State) : Result := aluReg .add .a s

/-- ADC A,B (R413). -/
def execAdcAB (s : State) : Result := aluReg .adc .b s

/-- ADC A,C (R413). -/
def execAdcAC (s : State) : Result := aluReg .adc .c s

/-- ADC A,D (R413). -/
def execAdcAD (s : State) : Result := aluReg .adc .d s

/-- ADC A,E (R413). -/
def execAdcAE (s : State) : Result := aluReg .adc .e s

/-- ADC A,H (R413). -/
def execAdcAH (s : State) : Result := aluReg .adc .h s

/-- ADC A,L (R413). -/
def execAdcAL (s : State) : Result := aluReg .adc .l s

/-- ADC A,[HL] (R414). -/
def execAdcAAtHl (s : State) : Result := aluHl .adc s

/-- ADC A,A (R413). -/
def execAdcAA (s : State) : Result := aluReg .adc .a s

/-- SUB A,B (R416). -/
def execSubAB (s : State) : Result := aluReg .sub .b s

/-- SUB A,C (R416). -/
def execSubAC (s : State) : Result := aluReg .sub .c s

/-- SUB A,D (R416). -/
def execSubAD (s : State) : Result := aluReg .sub .d s

/-- SUB A,E (R416). -/
def execSubAE (s : State) : Result := aluReg .sub .e s

/-- SUB A,H (R416). -/
def execSubAH (s : State) : Result := aluReg .sub .h s

/-- SUB A,L (R416). -/
def execSubAL (s : State) : Result := aluReg .sub .l s

/-- SUB A,[HL] (R417). -/
def execSubAAtHl (s : State) : Result := aluHl .sub s

/-- SUB A,A (R416). -/
def execSubAA (s : State) : Result := aluReg .sub .a s

/-- SBC A,B (R419). -/
def execSbcAB (s : State) : Result := aluReg .sbc .b s

/-- SBC A,C (R419). -/
def execSbcAC (s : State) : Result := aluReg .sbc .c s

/-- SBC A,D (R419). -/
def execSbcAD (s : State) : Result := aluReg .sbc .d s

/-- SBC A,E (R419). -/
def execSbcAE (s : State) : Result := aluReg .sbc .e s

/-- SBC A,H (R419). -/
def execSbcAH (s : State) : Result := aluReg .sbc .h s

/-- SBC A,L (R419). -/
def execSbcAL (s : State) : Result := aluReg .sbc .l s

/-- SBC A,[HL] (R420). -/
def execSbcAAtHl (s : State) : Result := aluHl .sbc s

/-- SBC A,A (R419). -/
def execSbcAA (s : State) : Result := aluReg .sbc .a s

/-- AND A,B (R422). -/
def execAndAB (s : State) : Result := aluReg .and .b s

/-- AND A,C (R422). -/
def execAndAC (s : State) : Result := aluReg .and .c s

/-- AND A,D (R422). -/
def execAndAD (s : State) : Result := aluReg .and .d s

/-- AND A,E (R422). -/
def execAndAE (s : State) : Result := aluReg .and .e s

/-- AND A,H (R422). -/
def execAndAH (s : State) : Result := aluReg .and .h s

/-- AND A,L (R422). -/
def execAndAL (s : State) : Result := aluReg .and .l s

/-- AND A,[HL] (R423). -/
def execAndAAtHl (s : State) : Result := aluHl .and s

/-- AND A,A (R422). -/
def execAndAA (s : State) : Result := aluReg .and .a s

/-- XOR A,B (R425). -/
def execXorAB (s : State) : Result := aluReg .xor .b s

/-- XOR A,C (R425). -/
def execXorAC (s : State) : Result := aluReg .xor .c s

/-- XOR A,D (R425). -/
def execXorAD (s : State) : Result := aluReg .xor .d s

/-- XOR A,E (R425). -/
def execXorAE (s : State) : Result := aluReg .xor .e s

/-- XOR A,H (R425). -/
def execXorAH (s : State) : Result := aluReg .xor .h s

/-- XOR A,L (R425). -/
def execXorAL (s : State) : Result := aluReg .xor .l s

/-- XOR A,[HL] (R426). -/
def execXorAAtHl (s : State) : Result := aluHl .xor s

/-- XOR A,A (R425). -/
def execXorAA (s : State) : Result := aluReg .xor .a s

/-- OR A,B (R428). -/
def execOrAB (s : State) : Result := aluReg .or .b s

/-- OR A,C (R428). -/
def execOrAC (s : State) : Result := aluReg .or .c s

/-- OR A,D (R428). -/
def execOrAD (s : State) : Result := aluReg .or .d s

/-- OR A,E (R428). -/
def execOrAE (s : State) : Result := aluReg .or .e s

/-- OR A,H (R428). -/
def execOrAH (s : State) : Result := aluReg .or .h s

/-- OR A,L (R428). -/
def execOrAL (s : State) : Result := aluReg .or .l s

/-- OR A,[HL] (R429). -/
def execOrAAtHl (s : State) : Result := aluHl .or s

/-- OR A,A (R428). -/
def execOrAA (s : State) : Result := aluReg .or .a s

/-- CP A,B (R431). -/
def execCpAB (s : State) : Result := aluReg .cp .b s

/-- CP A,C (R431). -/
def execCpAC (s : State) : Result := aluReg .cp .c s

/-- CP A,D (R431). -/
def execCpAD (s : State) : Result := aluReg .cp .d s

/-- CP A,E (R431). -/
def execCpAE (s : State) : Result := aluReg .cp .e s

/-- CP A,H (R431). -/
def execCpAH (s : State) : Result := aluReg .cp .h s

/-- CP A,L (R431). -/
def execCpAL (s : State) : Result := aluReg .cp .l s

/-- CP A,[HL] (R432). -/
def execCpAAtHl (s : State) : Result := aluHl .cp s

/-- CP A,A (R431). -/
def execCpAA (s : State) : Result := aluReg .cp .a s

/-- ADD A,n8 (R412). -/
def execAddAN8 (n8 : Byte) (s : State) : Result := aluImm .add n8 s

/-- ADC A,n8 (R415). -/
def execAdcAN8 (n8 : Byte) (s : State) : Result := aluImm .adc n8 s

/-- SUB A,n8 (R418). -/
def execSubAN8 (n8 : Byte) (s : State) : Result := aluImm .sub n8 s

/-- SBC A,n8 (R421). -/
def execSbcAN8 (n8 : Byte) (s : State) : Result := aluImm .sbc n8 s

/-- AND A,n8 (R424). -/
def execAndAN8 (n8 : Byte) (s : State) : Result := aluImm .and n8 s

/-- XOR A,n8 (R427). -/
def execXorAN8 (n8 : Byte) (s : State) : Result := aluImm .xor n8 s

/-- OR A,n8 (R430). -/
def execOrAN8 (n8 : Byte) (s : State) : Result := aluImm .or n8 s

/-- CP A,n8 (R433). -/
def execCpAN8 (n8 : Byte) (s : State) : Result := aluImm .cp n8 s

end Sys2Proof.Machine
end

