-- ==== Sys2Proof/Machine/Control.lean ====
section
/-! DEFINITION. The meanings of control transfer (43_control.md, rules R700 to R740). pc already stands after the
instruction's bytes when a meaning runs (rules R104, R740). -/

namespace Sys2Proof.Machine

/-- JP n16 (rule R700). -/
def jump (n16 : Word) (s : State) : Result := .next (s.setPc n16).internal

/-- JP cc,n16 (rule R701). -/
def jumpIf (cc : Cond) (n16 : Word) (s : State) : Result := if s.flags.holds cc then jump n16 s else .next s

/-- JP HL (rule R702): no internal cycle. -/
def jumpHl (s : State) : Result := .next (s.setPc s.hl)

/-- JR e8 (rule R710). -/
def jumpRel (e8 : Byte) (s : State) : Result := .next (s.setPc (s.regs.pc + sext16 e8)).internal

/-- JR cc,e8 (rule R711). -/
def jumpRelIf (cc : Cond) (e8 : Byte) (s : State) : Result :=
  if s.flags.holds cc then jumpRel e8 s else .next s

/-- CALL n16 (rule R720). -/
def call (n16 : Word) (s : State) : Result := push16Then s.regs.pc (fun t => .next (t.setPc n16)) s.internal

/-- CALL cc,n16 (rule R721). -/
def callIf (cc : Cond) (n16 : Word) (s : State) : Result := if s.flags.holds cc then call n16 s else .next s

/-- RST t (rule R730): a call to a fixed target. -/
def restart (t : Byte) (s : State) : Result := call (t.zeroExtend 16) s

/-- RET (rule R722). -/
def ret (s : State) : Result := pop16Then (fun x t => .next (t.setPc x).internal) s

/-- RET cc (rule R723): one internal cycle for the condition, taken or not. -/
def retIf (cc : Cond) (s : State) : Result := if s.flags.holds cc then ret s.internal else .next s.internal

/-! One definition per instruction. -/

/-- JR e8 (R710). -/
def execJrE8 (e8 : Byte) (s : State) : Result := jumpRel e8 s

/-- JR NZ,e8 (R711). -/
def execJrNzE8 (e8 : Byte) (s : State) : Result := jumpRelIf .nz e8 s

/-- JR Z,e8 (R711). -/
def execJrZE8 (e8 : Byte) (s : State) : Result := jumpRelIf .z e8 s

/-- JR NC,e8 (R711). -/
def execJrNcE8 (e8 : Byte) (s : State) : Result := jumpRelIf .nc e8 s

/-- JR C,e8 (R711). -/
def execJrCE8 (e8 : Byte) (s : State) : Result := jumpRelIf .c e8 s

/-- RET NZ (R723). -/
def execRetNz (s : State) : Result := retIf .nz s

/-- JP NZ,n16 (R701). -/
def execJpNzN16 (n16 : Word) (s : State) : Result := jumpIf .nz n16 s

/-- JP n16 (R700). -/
def execJpN16 (n16 : Word) (s : State) : Result := jump n16 s

/-- CALL NZ,n16 (R721). -/
def execCallNzN16 (n16 : Word) (s : State) : Result := callIf .nz n16 s

/-- RST $00 (R730). -/
def execRst00 (s : State) : Result := restart 0x00#8 s

/-- RET Z (R723). -/
def execRetZ (s : State) : Result := retIf .z s

/-- RET (R722). -/
def execRet (s : State) : Result := ret s

/-- JP Z,n16 (R701). -/
def execJpZN16 (n16 : Word) (s : State) : Result := jumpIf .z n16 s

/-- CALL Z,n16 (R721). -/
def execCallZN16 (n16 : Word) (s : State) : Result := callIf .z n16 s

/-- CALL n16 (R720). -/
def execCallN16 (n16 : Word) (s : State) : Result := call n16 s

/-- RST $08 (R730). -/
def execRst08 (s : State) : Result := restart 0x08#8 s

/-- RET NC (R723). -/
def execRetNc (s : State) : Result := retIf .nc s

/-- JP NC,n16 (R701). -/
def execJpNcN16 (n16 : Word) (s : State) : Result := jumpIf .nc n16 s

/-- CALL NC,n16 (R721). -/
def execCallNcN16 (n16 : Word) (s : State) : Result := callIf .nc n16 s

/-- RST $10 (R730). -/
def execRst10 (s : State) : Result := restart 0x10#8 s

/-- RET C (R723). -/
def execRetC (s : State) : Result := retIf .c s

/-- RETI (R724). -/
def execReti (s : State) : Result := returnFromInterrupt s

/-- JP C,n16 (R701). -/
def execJpCN16 (n16 : Word) (s : State) : Result := jumpIf .c n16 s

/-- CALL C,n16 (R721). -/
def execCallCN16 (n16 : Word) (s : State) : Result := callIf .c n16 s

/-- RST $18 (R730). -/
def execRst18 (s : State) : Result := restart 0x18#8 s

/-- RST $20 (R730). -/
def execRst20 (s : State) : Result := restart 0x20#8 s

/-- JP HL (R702). -/
def execJpHl (s : State) : Result := jumpHl s

/-- RST $28 (R730). -/
def execRst28 (s : State) : Result := restart 0x28#8 s

/-- RST $30 (R730). -/
def execRst30 (s : State) : Result := restart 0x30#8 s

/-- RST $38 (R730). -/
def execRst38 (s : State) : Result := restart 0x38#8 s

end Sys2Proof.Machine
end

