-- ==== Sys2Proof/Machine/Loads.lean ====
section
/-! DEFINITION. The meanings of loads, stores and stack transfers (41_loads.md, rules R500 to R541). -/

namespace Sys2Proof.Machine

/-- LD r,r' (rule R500). -/
def loadReg (dst src : Reg8) (s : State) : Result := .next (s.setR8 dst (s.r8 src))

/-- LD r,n8 (rule R501). -/
def loadImm (r : Reg8) (n8 : Byte) (s : State) : Result := .next (s.setR8 r n8)

/-- LD r,[HL] (rule R502). -/
def loadHl (r : Reg8) (s : State) : Result := readThen s.hl (fun v t => .next (t.setR8 r v)) s

/-- LD [HL],r and LD [HL],n8 (rules R503, R504). -/
def storeHl (v : Byte) (s : State) : Result := writeThen s.hl v .next s

/-- The loads of a from an address (rules R505, R506, R509, R511, R513). -/
def loadAcc (x : Word) (s : State) : Result := readThen x (fun v t => .next (t.setR8 .a v)) s

/-- The stores of a to an address (rules R507, R508, R510, R512, R514). -/
def storeAcc (x : Word) (s : State) : Result := writeThen x s.regs.a .next s

/-- LD A,[HL+] and LD A,[HL-] (rules R515, R516): hl steps after the access. -/
def loadAccStep (d : Word) (s : State) : Result :=
  readThen s.hl (fun v t => .next ((t.setR8 .a v).setR16 .hl (t.hl + d))) s

/-- LD [HL+],A and LD [HL-],A (rules R517, R518): hl steps after the access. -/
def storeAccStep (d : Word) (s : State) : Result :=
  writeThen s.hl s.regs.a (fun t => .next (t.setR16 .hl (t.hl + d))) s

/-- LD rr,n16 (rule R530). -/
def loadPair (r : Reg16) (n16 : Word) (s : State) : Result := .next (s.setR16 r n16)

/-- LD [n16],SP (rules R222, R531): low byte first. -/
def storeSp (n16 : Word) (s : State) : Result :=
  writeThen n16 s.regs.sp.lo (writeThen (n16 + 1) s.regs.sp.hi .next) s

/-- LD SP,HL (rule R532). -/
def loadSpHl (s : State) : Result := .next (s.setSp s.hl).internal

/-- PUSH rr (rule R540). -/
def pushPair (r : StackPair) (s : State) : Result := push16Then (s.stackPair r) .next s.internal

/-- POP rr (rule R541). -/
def popPair (r : StackPair) (s : State) : Result := pop16Then (fun v t => .next (t.setStackPair v r)) s

/-! One definition per instruction. -/

/-- LD BC,n16 (R530). -/
def execLdBcN16 (n16 : Word) (s : State) : Result := loadPair .bc n16 s

/-- LD [BC],A (R507). -/
def execLdAtBcA (s : State) : Result := storeAcc (s.r16 .bc) s

/-- LD B,n8 (R501). -/
def execLdBN8 (n8 : Byte) (s : State) : Result := loadImm .b n8 s

/-- LD [n16],SP (R531). -/
def execLdAtN16Sp (n16 : Word) (s : State) : Result := storeSp n16 s

/-- LD A,[BC] (R505). -/
def execLdAAtBc (s : State) : Result := loadAcc (s.r16 .bc) s

/-- LD C,n8 (R501). -/
def execLdCN8 (n8 : Byte) (s : State) : Result := loadImm .c n8 s

/-- LD DE,n16 (R530). -/
def execLdDeN16 (n16 : Word) (s : State) : Result := loadPair .de n16 s

/-- LD [DE],A (R508). -/
def execLdAtDeA (s : State) : Result := storeAcc (s.r16 .de) s

/-- LD D,n8 (R501). -/
def execLdDN8 (n8 : Byte) (s : State) : Result := loadImm .d n8 s

/-- LD A,[DE] (R506). -/
def execLdAAtDe (s : State) : Result := loadAcc (s.r16 .de) s

/-- LD E,n8 (R501). -/
def execLdEN8 (n8 : Byte) (s : State) : Result := loadImm .e n8 s

/-- LD HL,n16 (R530). -/
def execLdHlN16 (n16 : Word) (s : State) : Result := loadPair .hl n16 s

/-- LD [HL+],A (R517). -/
def execLdAtHlIncA (s : State) : Result := storeAccStep 1 s

/-- LD H,n8 (R501). -/
def execLdHN8 (n8 : Byte) (s : State) : Result := loadImm .h n8 s

/-- LD A,[HL+] (R515). -/
def execLdAAtHlInc (s : State) : Result := loadAccStep 1 s

/-- LD L,n8 (R501). -/
def execLdLN8 (n8 : Byte) (s : State) : Result := loadImm .l n8 s

/-- LD SP,n16 (R530). -/
def execLdSpN16 (n16 : Word) (s : State) : Result := loadPair .sp n16 s

/-- LD [HL-],A (R518). -/
def execLdAtHlDecA (s : State) : Result := storeAccStep (-1) s

/-- LD [HL],n8 (R504). -/
def execLdAtHlN8 (n8 : Byte) (s : State) : Result := storeHl n8 s

/-- LD A,[HL-] (R516). -/
def execLdAAtHlDec (s : State) : Result := loadAccStep (-1) s

/-- LD A,n8 (R501). -/
def execLdAN8 (n8 : Byte) (s : State) : Result := loadImm .a n8 s

/-- LD B,B (R500). -/
def execLdBB (s : State) : Result := loadReg .b .b s

/-- LD B,C (R500). -/
def execLdBC (s : State) : Result := loadReg .b .c s

/-- LD B,D (R500). -/
def execLdBD (s : State) : Result := loadReg .b .d s

/-- LD B,E (R500). -/
def execLdBE (s : State) : Result := loadReg .b .e s

/-- LD B,H (R500). -/
def execLdBH (s : State) : Result := loadReg .b .h s

/-- LD B,L (R500). -/
def execLdBL (s : State) : Result := loadReg .b .l s

/-- LD B,[HL] (R502). -/
def execLdBAtHl (s : State) : Result := loadHl .b s

/-- LD B,A (R500). -/
def execLdBA (s : State) : Result := loadReg .b .a s

/-- LD C,B (R500). -/
def execLdCB (s : State) : Result := loadReg .c .b s

/-- LD C,C (R500). -/
def execLdCC (s : State) : Result := loadReg .c .c s

/-- LD C,D (R500). -/
def execLdCD (s : State) : Result := loadReg .c .d s

/-- LD C,E (R500). -/
def execLdCE (s : State) : Result := loadReg .c .e s

/-- LD C,H (R500). -/
def execLdCH (s : State) : Result := loadReg .c .h s

/-- LD C,L (R500). -/
def execLdCL (s : State) : Result := loadReg .c .l s

/-- LD C,[HL] (R502). -/
def execLdCAtHl (s : State) : Result := loadHl .c s

/-- LD C,A (R500). -/
def execLdCA (s : State) : Result := loadReg .c .a s

/-- LD D,B (R500). -/
def execLdDB (s : State) : Result := loadReg .d .b s

/-- LD D,C (R500). -/
def execLdDC (s : State) : Result := loadReg .d .c s

/-- LD D,D (R500). -/
def execLdDD (s : State) : Result := loadReg .d .d s

/-- LD D,E (R500). -/
def execLdDE (s : State) : Result := loadReg .d .e s

/-- LD D,H (R500). -/
def execLdDH (s : State) : Result := loadReg .d .h s

/-- LD D,L (R500). -/
def execLdDL (s : State) : Result := loadReg .d .l s

/-- LD D,[HL] (R502). -/
def execLdDAtHl (s : State) : Result := loadHl .d s

/-- LD D,A (R500). -/
def execLdDA (s : State) : Result := loadReg .d .a s

/-- LD E,B (R500). -/
def execLdEB (s : State) : Result := loadReg .e .b s

/-- LD E,C (R500). -/
def execLdEC (s : State) : Result := loadReg .e .c s

/-- LD E,D (R500). -/
def execLdED (s : State) : Result := loadReg .e .d s

/-- LD E,E (R500). -/
def execLdEE (s : State) : Result := loadReg .e .e s

/-- LD E,H (R500). -/
def execLdEH (s : State) : Result := loadReg .e .h s

/-- LD E,L (R500). -/
def execLdEL (s : State) : Result := loadReg .e .l s

/-- LD E,[HL] (R502). -/
def execLdEAtHl (s : State) : Result := loadHl .e s

/-- LD E,A (R500). -/
def execLdEA (s : State) : Result := loadReg .e .a s

/-- LD H,B (R500). -/
def execLdHB (s : State) : Result := loadReg .h .b s

/-- LD H,C (R500). -/
def execLdHC (s : State) : Result := loadReg .h .c s

/-- LD H,D (R500). -/
def execLdHD (s : State) : Result := loadReg .h .d s

/-- LD H,E (R500). -/
def execLdHE (s : State) : Result := loadReg .h .e s

/-- LD H,H (R500). -/
def execLdHH (s : State) : Result := loadReg .h .h s

/-- LD H,L (R500). -/
def execLdHL (s : State) : Result := loadReg .h .l s

/-- LD H,[HL] (R502). -/
def execLdHAtHl (s : State) : Result := loadHl .h s

/-- LD H,A (R500). -/
def execLdHA (s : State) : Result := loadReg .h .a s

/-- LD L,B (R500). -/
def execLdLB (s : State) : Result := loadReg .l .b s

/-- LD L,C (R500). -/
def execLdLC (s : State) : Result := loadReg .l .c s

/-- LD L,D (R500). -/
def execLdLD (s : State) : Result := loadReg .l .d s

/-- LD L,E (R500). -/
def execLdLE (s : State) : Result := loadReg .l .e s

/-- LD L,H (R500). -/
def execLdLH (s : State) : Result := loadReg .l .h s

/-- LD L,L (R500). -/
def execLdLL (s : State) : Result := loadReg .l .l s

/-- LD L,[HL] (R502). -/
def execLdLAtHl (s : State) : Result := loadHl .l s

/-- LD L,A (R500). -/
def execLdLA (s : State) : Result := loadReg .l .a s

/-- LD [HL],B (R503). -/
def execLdAtHlB (s : State) : Result := storeHl (s.r8 .b) s

/-- LD [HL],C (R503). -/
def execLdAtHlC (s : State) : Result := storeHl (s.r8 .c) s

/-- LD [HL],D (R503). -/
def execLdAtHlD (s : State) : Result := storeHl (s.r8 .d) s

/-- LD [HL],E (R503). -/
def execLdAtHlE (s : State) : Result := storeHl (s.r8 .e) s

/-- LD [HL],H (R503). -/
def execLdAtHlH (s : State) : Result := storeHl (s.r8 .h) s

/-- LD [HL],L (R503). -/
def execLdAtHlL (s : State) : Result := storeHl (s.r8 .l) s

/-- LD [HL],A (R503). -/
def execLdAtHlA (s : State) : Result := storeHl (s.r8 .a) s

/-- LD A,B (R500). -/
def execLdAB (s : State) : Result := loadReg .a .b s

/-- LD A,C (R500). -/
def execLdAC (s : State) : Result := loadReg .a .c s

/-- LD A,D (R500). -/
def execLdAD (s : State) : Result := loadReg .a .d s

/-- LD A,E (R500). -/
def execLdAE (s : State) : Result := loadReg .a .e s

/-- LD A,H (R500). -/
def execLdAH (s : State) : Result := loadReg .a .h s

/-- LD A,L (R500). -/
def execLdAL (s : State) : Result := loadReg .a .l s

/-- LD A,[HL] (R502). -/
def execLdAAtHl (s : State) : Result := loadHl .a s

/-- LD A,A (R500). -/
def execLdAA (s : State) : Result := loadReg .a .a s

/-- POP BC (R541). -/
def execPopBc (s : State) : Result := popPair .bc s

/-- PUSH BC (R540). -/
def execPushBc (s : State) : Result := pushPair .bc s

/-- POP DE (R541). -/
def execPopDe (s : State) : Result := popPair .de s

/-- PUSH DE (R540). -/
def execPushDe (s : State) : Result := pushPair .de s

/-- LDH [n8],A (R514). -/
def execLdhAtN8A (n8 : Byte) (s : State) : Result := storeAcc (highPage n8) s

/-- POP HL (R541). -/
def execPopHl (s : State) : Result := popPair .hl s

/-- LDH [C],A (R512). -/
def execLdhAtCA (s : State) : Result := storeAcc (highPage s.regs.c) s

/-- PUSH HL (R540). -/
def execPushHl (s : State) : Result := pushPair .hl s

/-- LD [n16],A (R510). -/
def execLdAtN16A (n16 : Word) (s : State) : Result := storeAcc n16 s

/-- LDH A,[n8] (R513). -/
def execLdhAAtN8 (n8 : Byte) (s : State) : Result := loadAcc (highPage n8) s

/-- POP AF (R541). -/
def execPopAf (s : State) : Result := popPair .af s

/-- LDH A,[C] (R511). -/
def execLdhAAtC (s : State) : Result := loadAcc (highPage s.regs.c) s

/-- PUSH AF (R540). -/
def execPushAf (s : State) : Result := pushPair .af s

/-- LD SP,HL (R532). -/
def execLdSpHl (s : State) : Result := loadSpHl s

/-- LD A,[n16] (R509). -/
def execLdAAtN16 (n16 : Word) (s : State) : Result := loadAcc n16 s

end Sys2Proof.Machine
end

