-- ==== Sys2Proof/Machine/RotateBit.lean ====
section
/-! DEFINITION. The meanings of rotates, shifts and bit operations (44_rotate_bit.md, rules R800 to R835), and the
secondary table as one operation over its fields, which PREFIX CB forwards to (rules R322, R901). -/

namespace Sys2Proof.Machine

/-- RLCA, RRCA, RLA, RRA (rules R800 to R803). -/
def rotAcc (op : RotOp) (s : State) : Result :=
  let x := rotAcc8 op s.regs.a s.flags.c
  .next ((s.setR8 .a x.value).setFlags x.flags)

/-- The secondary-table rotates and shifts (rules R810 to R826). -/
def rotOperand (op : RotOp) (z : CbOperand) (s : State) : Result :=
  readOperandThen z (fun v t =>
    let x := rotFlags8 op v t.flags.c
    writeOperandThen z x.value (fun u => .next (u.setFlags x.flags)) t) s

/-- BIT b (rules R830, R831): the operand is not written. -/
def bitOperand (b : Nat) (z : CbOperand) (s : State) : Result :=
  readOperandThen z (fun v t => .next (t.setFlags (bitFlags b v t.flags))) s

/-- RES b (rules R832, R833): the write is made even when the bit was clear. -/
def resOperand (b : Nat) (z : CbOperand) (s : State) : Result :=
  readOperandThen z (fun v t => writeOperandThen z (resBit b v) .next t) s

/-- SET b (rules R834, R835). -/
def setOperand (b : Nat) (z : CbOperand) (s : State) : Result :=
  readOperandThen z (fun v t => writeOperandThen z (setBit b v) .next t) s

/-- SECONDARY[op2] by its fields x, y and z (rule R322). -/
def runSecondary (op2 : Byte) (s : State) : Result :=
  let y := op2.toNat / 8 % 8
  let z := cbOperand (op2.toNat % 8)
  match op2.toNat / 64 with
  | 0 => rotOperand (cbRotOp y) z s
  | 1 => bitOperand y z s
  | 2 => resOperand y z s
  | _ => setOperand y z s

/-! One definition per instruction. -/

/-- RLCA (R800). -/
def execRlca (s : State) : Result := rotAcc .rlc s

/-- RRCA (R801). -/
def execRrca (s : State) : Result := rotAcc .rrc s

/-- RLA (R802). -/
def execRla (s : State) : Result := rotAcc .rl s

/-- RRA (R803). -/
def execRra (s : State) : Result := rotAcc .rr s

/-- RLC B (R811). -/
def execRlcB (s : State) : Result := rotOperand .rlc (.reg .b) s

/-- RLC C (R811). -/
def execRlcC (s : State) : Result := rotOperand .rlc (.reg .c) s

/-- RLC D (R811). -/
def execRlcD (s : State) : Result := rotOperand .rlc (.reg .d) s

/-- RLC E (R811). -/
def execRlcE (s : State) : Result := rotOperand .rlc (.reg .e) s

/-- RLC H (R811). -/
def execRlcH (s : State) : Result := rotOperand .rlc (.reg .h) s

/-- RLC L (R811). -/
def execRlcL (s : State) : Result := rotOperand .rlc (.reg .l) s

/-- RLC [HL] (R812). -/
def execRlcAtHl (s : State) : Result := rotOperand .rlc .atHl s

/-- RLC A (R811). -/
def execRlcA (s : State) : Result := rotOperand .rlc (.reg .a) s

/-- RRC B (R813). -/
def execRrcB (s : State) : Result := rotOperand .rrc (.reg .b) s

/-- RRC C (R813). -/
def execRrcC (s : State) : Result := rotOperand .rrc (.reg .c) s

/-- RRC D (R813). -/
def execRrcD (s : State) : Result := rotOperand .rrc (.reg .d) s

/-- RRC E (R813). -/
def execRrcE (s : State) : Result := rotOperand .rrc (.reg .e) s

/-- RRC H (R813). -/
def execRrcH (s : State) : Result := rotOperand .rrc (.reg .h) s

/-- RRC L (R813). -/
def execRrcL (s : State) : Result := rotOperand .rrc (.reg .l) s

/-- RRC [HL] (R814). -/
def execRrcAtHl (s : State) : Result := rotOperand .rrc .atHl s

/-- RRC A (R813). -/
def execRrcA (s : State) : Result := rotOperand .rrc (.reg .a) s

/-- RL B (R815). -/
def execRlB (s : State) : Result := rotOperand .rl (.reg .b) s

/-- RL C (R815). -/
def execRlC (s : State) : Result := rotOperand .rl (.reg .c) s

/-- RL D (R815). -/
def execRlD (s : State) : Result := rotOperand .rl (.reg .d) s

/-- RL E (R815). -/
def execRlE (s : State) : Result := rotOperand .rl (.reg .e) s

/-- RL H (R815). -/
def execRlH (s : State) : Result := rotOperand .rl (.reg .h) s

/-- RL L (R815). -/
def execRlL (s : State) : Result := rotOperand .rl (.reg .l) s

/-- RL [HL] (R816). -/
def execRlAtHl (s : State) : Result := rotOperand .rl .atHl s

/-- RL A (R815). -/
def execRlA (s : State) : Result := rotOperand .rl (.reg .a) s

/-- RR B (R817). -/
def execRrB (s : State) : Result := rotOperand .rr (.reg .b) s

/-- RR C (R817). -/
def execRrC (s : State) : Result := rotOperand .rr (.reg .c) s

/-- RR D (R817). -/
def execRrD (s : State) : Result := rotOperand .rr (.reg .d) s

/-- RR E (R817). -/
def execRrE (s : State) : Result := rotOperand .rr (.reg .e) s

/-- RR H (R817). -/
def execRrH (s : State) : Result := rotOperand .rr (.reg .h) s

/-- RR L (R817). -/
def execRrL (s : State) : Result := rotOperand .rr (.reg .l) s

/-- RR [HL] (R818). -/
def execRrAtHl (s : State) : Result := rotOperand .rr .atHl s

/-- RR A (R817). -/
def execRrA (s : State) : Result := rotOperand .rr (.reg .a) s

/-- SLA B (R819). -/
def execSlaB (s : State) : Result := rotOperand .sla (.reg .b) s

/-- SLA C (R819). -/
def execSlaC (s : State) : Result := rotOperand .sla (.reg .c) s

/-- SLA D (R819). -/
def execSlaD (s : State) : Result := rotOperand .sla (.reg .d) s

/-- SLA E (R819). -/
def execSlaE (s : State) : Result := rotOperand .sla (.reg .e) s

/-- SLA H (R819). -/
def execSlaH (s : State) : Result := rotOperand .sla (.reg .h) s

/-- SLA L (R819). -/
def execSlaL (s : State) : Result := rotOperand .sla (.reg .l) s

/-- SLA [HL] (R820). -/
def execSlaAtHl (s : State) : Result := rotOperand .sla .atHl s

/-- SLA A (R819). -/
def execSlaA (s : State) : Result := rotOperand .sla (.reg .a) s

/-- SRA B (R821). -/
def execSraB (s : State) : Result := rotOperand .sra (.reg .b) s

/-- SRA C (R821). -/
def execSraC (s : State) : Result := rotOperand .sra (.reg .c) s

/-- SRA D (R821). -/
def execSraD (s : State) : Result := rotOperand .sra (.reg .d) s

/-- SRA E (R821). -/
def execSraE (s : State) : Result := rotOperand .sra (.reg .e) s

/-- SRA H (R821). -/
def execSraH (s : State) : Result := rotOperand .sra (.reg .h) s

/-- SRA L (R821). -/
def execSraL (s : State) : Result := rotOperand .sra (.reg .l) s

/-- SRA [HL] (R822). -/
def execSraAtHl (s : State) : Result := rotOperand .sra .atHl s

/-- SRA A (R821). -/
def execSraA (s : State) : Result := rotOperand .sra (.reg .a) s

/-- SWAP B (R823). -/
def execSwapB (s : State) : Result := rotOperand .swap (.reg .b) s

/-- SWAP C (R823). -/
def execSwapC (s : State) : Result := rotOperand .swap (.reg .c) s

/-- SWAP D (R823). -/
def execSwapD (s : State) : Result := rotOperand .swap (.reg .d) s

/-- SWAP E (R823). -/
def execSwapE (s : State) : Result := rotOperand .swap (.reg .e) s

/-- SWAP H (R823). -/
def execSwapH (s : State) : Result := rotOperand .swap (.reg .h) s

/-- SWAP L (R823). -/
def execSwapL (s : State) : Result := rotOperand .swap (.reg .l) s

/-- SWAP [HL] (R824). -/
def execSwapAtHl (s : State) : Result := rotOperand .swap .atHl s

/-- SWAP A (R823). -/
def execSwapA (s : State) : Result := rotOperand .swap (.reg .a) s

/-- SRL B (R825). -/
def execSrlB (s : State) : Result := rotOperand .srl (.reg .b) s

/-- SRL C (R825). -/
def execSrlC (s : State) : Result := rotOperand .srl (.reg .c) s

/-- SRL D (R825). -/
def execSrlD (s : State) : Result := rotOperand .srl (.reg .d) s

/-- SRL E (R825). -/
def execSrlE (s : State) : Result := rotOperand .srl (.reg .e) s

/-- SRL H (R825). -/
def execSrlH (s : State) : Result := rotOperand .srl (.reg .h) s

/-- SRL L (R825). -/
def execSrlL (s : State) : Result := rotOperand .srl (.reg .l) s

/-- SRL [HL] (R826). -/
def execSrlAtHl (s : State) : Result := rotOperand .srl .atHl s

/-- SRL A (R825). -/
def execSrlA (s : State) : Result := rotOperand .srl (.reg .a) s

/-- BIT 0,B (R830). -/
def execBit0B (s : State) : Result := bitOperand 0 (.reg .b) s

/-- BIT 0,C (R830). -/
def execBit0C (s : State) : Result := bitOperand 0 (.reg .c) s

/-- BIT 0,D (R830). -/
def execBit0D (s : State) : Result := bitOperand 0 (.reg .d) s

/-- BIT 0,E (R830). -/
def execBit0E (s : State) : Result := bitOperand 0 (.reg .e) s

/-- BIT 0,H (R830). -/
def execBit0H (s : State) : Result := bitOperand 0 (.reg .h) s

/-- BIT 0,L (R830). -/
def execBit0L (s : State) : Result := bitOperand 0 (.reg .l) s

/-- BIT 0,[HL] (R831). -/
def execBit0AtHl (s : State) : Result := bitOperand 0 .atHl s

/-- BIT 0,A (R830). -/
def execBit0A (s : State) : Result := bitOperand 0 (.reg .a) s

/-- BIT 1,B (R830). -/
def execBit1B (s : State) : Result := bitOperand 1 (.reg .b) s

/-- BIT 1,C (R830). -/
def execBit1C (s : State) : Result := bitOperand 1 (.reg .c) s

/-- BIT 1,D (R830). -/
def execBit1D (s : State) : Result := bitOperand 1 (.reg .d) s

/-- BIT 1,E (R830). -/
def execBit1E (s : State) : Result := bitOperand 1 (.reg .e) s

/-- BIT 1,H (R830). -/
def execBit1H (s : State) : Result := bitOperand 1 (.reg .h) s

/-- BIT 1,L (R830). -/
def execBit1L (s : State) : Result := bitOperand 1 (.reg .l) s

/-- BIT 1,[HL] (R831). -/
def execBit1AtHl (s : State) : Result := bitOperand 1 .atHl s

/-- BIT 1,A (R830). -/
def execBit1A (s : State) : Result := bitOperand 1 (.reg .a) s

/-- BIT 2,B (R830). -/
def execBit2B (s : State) : Result := bitOperand 2 (.reg .b) s

/-- BIT 2,C (R830). -/
def execBit2C (s : State) : Result := bitOperand 2 (.reg .c) s

/-- BIT 2,D (R830). -/
def execBit2D (s : State) : Result := bitOperand 2 (.reg .d) s

/-- BIT 2,E (R830). -/
def execBit2E (s : State) : Result := bitOperand 2 (.reg .e) s

/-- BIT 2,H (R830). -/
def execBit2H (s : State) : Result := bitOperand 2 (.reg .h) s

/-- BIT 2,L (R830). -/
def execBit2L (s : State) : Result := bitOperand 2 (.reg .l) s

/-- BIT 2,[HL] (R831). -/
def execBit2AtHl (s : State) : Result := bitOperand 2 .atHl s

/-- BIT 2,A (R830). -/
def execBit2A (s : State) : Result := bitOperand 2 (.reg .a) s

/-- BIT 3,B (R830). -/
def execBit3B (s : State) : Result := bitOperand 3 (.reg .b) s

/-- BIT 3,C (R830). -/
def execBit3C (s : State) : Result := bitOperand 3 (.reg .c) s

/-- BIT 3,D (R830). -/
def execBit3D (s : State) : Result := bitOperand 3 (.reg .d) s

/-- BIT 3,E (R830). -/
def execBit3E (s : State) : Result := bitOperand 3 (.reg .e) s

/-- BIT 3,H (R830). -/
def execBit3H (s : State) : Result := bitOperand 3 (.reg .h) s

/-- BIT 3,L (R830). -/
def execBit3L (s : State) : Result := bitOperand 3 (.reg .l) s

/-- BIT 3,[HL] (R831). -/
def execBit3AtHl (s : State) : Result := bitOperand 3 .atHl s

/-- BIT 3,A (R830). -/
def execBit3A (s : State) : Result := bitOperand 3 (.reg .a) s

/-- BIT 4,B (R830). -/
def execBit4B (s : State) : Result := bitOperand 4 (.reg .b) s

/-- BIT 4,C (R830). -/
def execBit4C (s : State) : Result := bitOperand 4 (.reg .c) s

/-- BIT 4,D (R830). -/
def execBit4D (s : State) : Result := bitOperand 4 (.reg .d) s

/-- BIT 4,E (R830). -/
def execBit4E (s : State) : Result := bitOperand 4 (.reg .e) s

/-- BIT 4,H (R830). -/
def execBit4H (s : State) : Result := bitOperand 4 (.reg .h) s

/-- BIT 4,L (R830). -/
def execBit4L (s : State) : Result := bitOperand 4 (.reg .l) s

/-- BIT 4,[HL] (R831). -/
def execBit4AtHl (s : State) : Result := bitOperand 4 .atHl s

/-- BIT 4,A (R830). -/
def execBit4A (s : State) : Result := bitOperand 4 (.reg .a) s

/-- BIT 5,B (R830). -/
def execBit5B (s : State) : Result := bitOperand 5 (.reg .b) s

/-- BIT 5,C (R830). -/
def execBit5C (s : State) : Result := bitOperand 5 (.reg .c) s

/-- BIT 5,D (R830). -/
def execBit5D (s : State) : Result := bitOperand 5 (.reg .d) s

/-- BIT 5,E (R830). -/
def execBit5E (s : State) : Result := bitOperand 5 (.reg .e) s

/-- BIT 5,H (R830). -/
def execBit5H (s : State) : Result := bitOperand 5 (.reg .h) s

/-- BIT 5,L (R830). -/
def execBit5L (s : State) : Result := bitOperand 5 (.reg .l) s

/-- BIT 5,[HL] (R831). -/
def execBit5AtHl (s : State) : Result := bitOperand 5 .atHl s

/-- BIT 5,A (R830). -/
def execBit5A (s : State) : Result := bitOperand 5 (.reg .a) s

/-- BIT 6,B (R830). -/
def execBit6B (s : State) : Result := bitOperand 6 (.reg .b) s

/-- BIT 6,C (R830). -/
def execBit6C (s : State) : Result := bitOperand 6 (.reg .c) s

/-- BIT 6,D (R830). -/
def execBit6D (s : State) : Result := bitOperand 6 (.reg .d) s

/-- BIT 6,E (R830). -/
def execBit6E (s : State) : Result := bitOperand 6 (.reg .e) s

/-- BIT 6,H (R830). -/
def execBit6H (s : State) : Result := bitOperand 6 (.reg .h) s

/-- BIT 6,L (R830). -/
def execBit6L (s : State) : Result := bitOperand 6 (.reg .l) s

/-- BIT 6,[HL] (R831). -/
def execBit6AtHl (s : State) : Result := bitOperand 6 .atHl s

/-- BIT 6,A (R830). -/
def execBit6A (s : State) : Result := bitOperand 6 (.reg .a) s

/-- BIT 7,B (R830). -/
def execBit7B (s : State) : Result := bitOperand 7 (.reg .b) s

/-- BIT 7,C (R830). -/
def execBit7C (s : State) : Result := bitOperand 7 (.reg .c) s

/-- BIT 7,D (R830). -/
def execBit7D (s : State) : Result := bitOperand 7 (.reg .d) s

/-- BIT 7,E (R830). -/
def execBit7E (s : State) : Result := bitOperand 7 (.reg .e) s

/-- BIT 7,H (R830). -/
def execBit7H (s : State) : Result := bitOperand 7 (.reg .h) s

/-- BIT 7,L (R830). -/
def execBit7L (s : State) : Result := bitOperand 7 (.reg .l) s

/-- BIT 7,[HL] (R831). -/
def execBit7AtHl (s : State) : Result := bitOperand 7 .atHl s

/-- BIT 7,A (R830). -/
def execBit7A (s : State) : Result := bitOperand 7 (.reg .a) s

/-- RES 0,B (R832). -/
def execRes0B (s : State) : Result := resOperand 0 (.reg .b) s

/-- RES 0,C (R832). -/
def execRes0C (s : State) : Result := resOperand 0 (.reg .c) s

/-- RES 0,D (R832). -/
def execRes0D (s : State) : Result := resOperand 0 (.reg .d) s

/-- RES 0,E (R832). -/
def execRes0E (s : State) : Result := resOperand 0 (.reg .e) s

/-- RES 0,H (R832). -/
def execRes0H (s : State) : Result := resOperand 0 (.reg .h) s

/-- RES 0,L (R832). -/
def execRes0L (s : State) : Result := resOperand 0 (.reg .l) s

/-- RES 0,[HL] (R833). -/
def execRes0AtHl (s : State) : Result := resOperand 0 .atHl s

/-- RES 0,A (R832). -/
def execRes0A (s : State) : Result := resOperand 0 (.reg .a) s

/-- RES 1,B (R832). -/
def execRes1B (s : State) : Result := resOperand 1 (.reg .b) s

/-- RES 1,C (R832). -/
def execRes1C (s : State) : Result := resOperand 1 (.reg .c) s

/-- RES 1,D (R832). -/
def execRes1D (s : State) : Result := resOperand 1 (.reg .d) s

/-- RES 1,E (R832). -/
def execRes1E (s : State) : Result := resOperand 1 (.reg .e) s

/-- RES 1,H (R832). -/
def execRes1H (s : State) : Result := resOperand 1 (.reg .h) s

/-- RES 1,L (R832). -/
def execRes1L (s : State) : Result := resOperand 1 (.reg .l) s

/-- RES 1,[HL] (R833). -/
def execRes1AtHl (s : State) : Result := resOperand 1 .atHl s

/-- RES 1,A (R832). -/
def execRes1A (s : State) : Result := resOperand 1 (.reg .a) s

/-- RES 2,B (R832). -/
def execRes2B (s : State) : Result := resOperand 2 (.reg .b) s

/-- RES 2,C (R832). -/
def execRes2C (s : State) : Result := resOperand 2 (.reg .c) s

/-- RES 2,D (R832). -/
def execRes2D (s : State) : Result := resOperand 2 (.reg .d) s

/-- RES 2,E (R832). -/
def execRes2E (s : State) : Result := resOperand 2 (.reg .e) s

/-- RES 2,H (R832). -/
def execRes2H (s : State) : Result := resOperand 2 (.reg .h) s

/-- RES 2,L (R832). -/
def execRes2L (s : State) : Result := resOperand 2 (.reg .l) s

/-- RES 2,[HL] (R833). -/
def execRes2AtHl (s : State) : Result := resOperand 2 .atHl s

/-- RES 2,A (R832). -/
def execRes2A (s : State) : Result := resOperand 2 (.reg .a) s

/-- RES 3,B (R832). -/
def execRes3B (s : State) : Result := resOperand 3 (.reg .b) s

/-- RES 3,C (R832). -/
def execRes3C (s : State) : Result := resOperand 3 (.reg .c) s

/-- RES 3,D (R832). -/
def execRes3D (s : State) : Result := resOperand 3 (.reg .d) s

/-- RES 3,E (R832). -/
def execRes3E (s : State) : Result := resOperand 3 (.reg .e) s

/-- RES 3,H (R832). -/
def execRes3H (s : State) : Result := resOperand 3 (.reg .h) s

/-- RES 3,L (R832). -/
def execRes3L (s : State) : Result := resOperand 3 (.reg .l) s

/-- RES 3,[HL] (R833). -/
def execRes3AtHl (s : State) : Result := resOperand 3 .atHl s

/-- RES 3,A (R832). -/
def execRes3A (s : State) : Result := resOperand 3 (.reg .a) s

/-- RES 4,B (R832). -/
def execRes4B (s : State) : Result := resOperand 4 (.reg .b) s

/-- RES 4,C (R832). -/
def execRes4C (s : State) : Result := resOperand 4 (.reg .c) s

/-- RES 4,D (R832). -/
def execRes4D (s : State) : Result := resOperand 4 (.reg .d) s

/-- RES 4,E (R832). -/
def execRes4E (s : State) : Result := resOperand 4 (.reg .e) s

/-- RES 4,H (R832). -/
def execRes4H (s : State) : Result := resOperand 4 (.reg .h) s

/-- RES 4,L (R832). -/
def execRes4L (s : State) : Result := resOperand 4 (.reg .l) s

/-- RES 4,[HL] (R833). -/
def execRes4AtHl (s : State) : Result := resOperand 4 .atHl s

/-- RES 4,A (R832). -/
def execRes4A (s : State) : Result := resOperand 4 (.reg .a) s

/-- RES 5,B (R832). -/
def execRes5B (s : State) : Result := resOperand 5 (.reg .b) s

/-- RES 5,C (R832). -/
def execRes5C (s : State) : Result := resOperand 5 (.reg .c) s

/-- RES 5,D (R832). -/
def execRes5D (s : State) : Result := resOperand 5 (.reg .d) s

/-- RES 5,E (R832). -/
def execRes5E (s : State) : Result := resOperand 5 (.reg .e) s

/-- RES 5,H (R832). -/
def execRes5H (s : State) : Result := resOperand 5 (.reg .h) s

/-- RES 5,L (R832). -/
def execRes5L (s : State) : Result := resOperand 5 (.reg .l) s

/-- RES 5,[HL] (R833). -/
def execRes5AtHl (s : State) : Result := resOperand 5 .atHl s

/-- RES 5,A (R832). -/
def execRes5A (s : State) : Result := resOperand 5 (.reg .a) s

/-- RES 6,B (R832). -/
def execRes6B (s : State) : Result := resOperand 6 (.reg .b) s

/-- RES 6,C (R832). -/
def execRes6C (s : State) : Result := resOperand 6 (.reg .c) s

/-- RES 6,D (R832). -/
def execRes6D (s : State) : Result := resOperand 6 (.reg .d) s

/-- RES 6,E (R832). -/
def execRes6E (s : State) : Result := resOperand 6 (.reg .e) s

/-- RES 6,H (R832). -/
def execRes6H (s : State) : Result := resOperand 6 (.reg .h) s

/-- RES 6,L (R832). -/
def execRes6L (s : State) : Result := resOperand 6 (.reg .l) s

/-- RES 6,[HL] (R833). -/
def execRes6AtHl (s : State) : Result := resOperand 6 .atHl s

/-- RES 6,A (R832). -/
def execRes6A (s : State) : Result := resOperand 6 (.reg .a) s

/-- RES 7,B (R832). -/
def execRes7B (s : State) : Result := resOperand 7 (.reg .b) s

/-- RES 7,C (R832). -/
def execRes7C (s : State) : Result := resOperand 7 (.reg .c) s

/-- RES 7,D (R832). -/
def execRes7D (s : State) : Result := resOperand 7 (.reg .d) s

/-- RES 7,E (R832). -/
def execRes7E (s : State) : Result := resOperand 7 (.reg .e) s

/-- RES 7,H (R832). -/
def execRes7H (s : State) : Result := resOperand 7 (.reg .h) s

/-- RES 7,L (R832). -/
def execRes7L (s : State) : Result := resOperand 7 (.reg .l) s

/-- RES 7,[HL] (R833). -/
def execRes7AtHl (s : State) : Result := resOperand 7 .atHl s

/-- RES 7,A (R832). -/
def execRes7A (s : State) : Result := resOperand 7 (.reg .a) s

/-- SET 0,B (R834). -/
def execSet0B (s : State) : Result := setOperand 0 (.reg .b) s

/-- SET 0,C (R834). -/
def execSet0C (s : State) : Result := setOperand 0 (.reg .c) s

/-- SET 0,D (R834). -/
def execSet0D (s : State) : Result := setOperand 0 (.reg .d) s

/-- SET 0,E (R834). -/
def execSet0E (s : State) : Result := setOperand 0 (.reg .e) s

/-- SET 0,H (R834). -/
def execSet0H (s : State) : Result := setOperand 0 (.reg .h) s

/-- SET 0,L (R834). -/
def execSet0L (s : State) : Result := setOperand 0 (.reg .l) s

/-- SET 0,[HL] (R835). -/
def execSet0AtHl (s : State) : Result := setOperand 0 .atHl s

/-- SET 0,A (R834). -/
def execSet0A (s : State) : Result := setOperand 0 (.reg .a) s

/-- SET 1,B (R834). -/
def execSet1B (s : State) : Result := setOperand 1 (.reg .b) s

/-- SET 1,C (R834). -/
def execSet1C (s : State) : Result := setOperand 1 (.reg .c) s

/-- SET 1,D (R834). -/
def execSet1D (s : State) : Result := setOperand 1 (.reg .d) s

/-- SET 1,E (R834). -/
def execSet1E (s : State) : Result := setOperand 1 (.reg .e) s

/-- SET 1,H (R834). -/
def execSet1H (s : State) : Result := setOperand 1 (.reg .h) s

/-- SET 1,L (R834). -/
def execSet1L (s : State) : Result := setOperand 1 (.reg .l) s

/-- SET 1,[HL] (R835). -/
def execSet1AtHl (s : State) : Result := setOperand 1 .atHl s

/-- SET 1,A (R834). -/
def execSet1A (s : State) : Result := setOperand 1 (.reg .a) s

/-- SET 2,B (R834). -/
def execSet2B (s : State) : Result := setOperand 2 (.reg .b) s

/-- SET 2,C (R834). -/
def execSet2C (s : State) : Result := setOperand 2 (.reg .c) s

/-- SET 2,D (R834). -/
def execSet2D (s : State) : Result := setOperand 2 (.reg .d) s

/-- SET 2,E (R834). -/
def execSet2E (s : State) : Result := setOperand 2 (.reg .e) s

/-- SET 2,H (R834). -/
def execSet2H (s : State) : Result := setOperand 2 (.reg .h) s

/-- SET 2,L (R834). -/
def execSet2L (s : State) : Result := setOperand 2 (.reg .l) s

/-- SET 2,[HL] (R835). -/
def execSet2AtHl (s : State) : Result := setOperand 2 .atHl s

/-- SET 2,A (R834). -/
def execSet2A (s : State) : Result := setOperand 2 (.reg .a) s

/-- SET 3,B (R834). -/
def execSet3B (s : State) : Result := setOperand 3 (.reg .b) s

/-- SET 3,C (R834). -/
def execSet3C (s : State) : Result := setOperand 3 (.reg .c) s

/-- SET 3,D (R834). -/
def execSet3D (s : State) : Result := setOperand 3 (.reg .d) s

/-- SET 3,E (R834). -/
def execSet3E (s : State) : Result := setOperand 3 (.reg .e) s

/-- SET 3,H (R834). -/
def execSet3H (s : State) : Result := setOperand 3 (.reg .h) s

/-- SET 3,L (R834). -/
def execSet3L (s : State) : Result := setOperand 3 (.reg .l) s

/-- SET 3,[HL] (R835). -/
def execSet3AtHl (s : State) : Result := setOperand 3 .atHl s

/-- SET 3,A (R834). -/
def execSet3A (s : State) : Result := setOperand 3 (.reg .a) s

/-- SET 4,B (R834). -/
def execSet4B (s : State) : Result := setOperand 4 (.reg .b) s

/-- SET 4,C (R834). -/
def execSet4C (s : State) : Result := setOperand 4 (.reg .c) s

/-- SET 4,D (R834). -/
def execSet4D (s : State) : Result := setOperand 4 (.reg .d) s

/-- SET 4,E (R834). -/
def execSet4E (s : State) : Result := setOperand 4 (.reg .e) s

/-- SET 4,H (R834). -/
def execSet4H (s : State) : Result := setOperand 4 (.reg .h) s

/-- SET 4,L (R834). -/
def execSet4L (s : State) : Result := setOperand 4 (.reg .l) s

/-- SET 4,[HL] (R835). -/
def execSet4AtHl (s : State) : Result := setOperand 4 .atHl s

/-- SET 4,A (R834). -/
def execSet4A (s : State) : Result := setOperand 4 (.reg .a) s

/-- SET 5,B (R834). -/
def execSet5B (s : State) : Result := setOperand 5 (.reg .b) s

/-- SET 5,C (R834). -/
def execSet5C (s : State) : Result := setOperand 5 (.reg .c) s

/-- SET 5,D (R834). -/
def execSet5D (s : State) : Result := setOperand 5 (.reg .d) s

/-- SET 5,E (R834). -/
def execSet5E (s : State) : Result := setOperand 5 (.reg .e) s

/-- SET 5,H (R834). -/
def execSet5H (s : State) : Result := setOperand 5 (.reg .h) s

/-- SET 5,L (R834). -/
def execSet5L (s : State) : Result := setOperand 5 (.reg .l) s

/-- SET 5,[HL] (R835). -/
def execSet5AtHl (s : State) : Result := setOperand 5 .atHl s

/-- SET 5,A (R834). -/
def execSet5A (s : State) : Result := setOperand 5 (.reg .a) s

/-- SET 6,B (R834). -/
def execSet6B (s : State) : Result := setOperand 6 (.reg .b) s

/-- SET 6,C (R834). -/
def execSet6C (s : State) : Result := setOperand 6 (.reg .c) s

/-- SET 6,D (R834). -/
def execSet6D (s : State) : Result := setOperand 6 (.reg .d) s

/-- SET 6,E (R834). -/
def execSet6E (s : State) : Result := setOperand 6 (.reg .e) s

/-- SET 6,H (R834). -/
def execSet6H (s : State) : Result := setOperand 6 (.reg .h) s

/-- SET 6,L (R834). -/
def execSet6L (s : State) : Result := setOperand 6 (.reg .l) s

/-- SET 6,[HL] (R835). -/
def execSet6AtHl (s : State) : Result := setOperand 6 .atHl s

/-- SET 6,A (R834). -/
def execSet6A (s : State) : Result := setOperand 6 (.reg .a) s

/-- SET 7,B (R834). -/
def execSet7B (s : State) : Result := setOperand 7 (.reg .b) s

/-- SET 7,C (R834). -/
def execSet7C (s : State) : Result := setOperand 7 (.reg .c) s

/-- SET 7,D (R834). -/
def execSet7D (s : State) : Result := setOperand 7 (.reg .d) s

/-- SET 7,E (R834). -/
def execSet7E (s : State) : Result := setOperand 7 (.reg .e) s

/-- SET 7,H (R834). -/
def execSet7H (s : State) : Result := setOperand 7 (.reg .h) s

/-- SET 7,L (R834). -/
def execSet7L (s : State) : Result := setOperand 7 (.reg .l) s

/-- SET 7,[HL] (R835). -/
def execSet7AtHl (s : State) : Result := setOperand 7 .atHl s

/-- SET 7,A (R834). -/
def execSet7A (s : State) : Result := setOperand 7 (.reg .a) s

end Sys2Proof.Machine
end

