-- ==== Sys2Proof/Machine/System.lean ====
section
/-! DEFINITION. The meanings of the system, interrupt-control and miscellaneous instructions (45_system.md, rules
R900 to R921). -/

namespace Sys2Proof.Machine

/-- An illegal primary opcode (rules R902, R1002): the fatal UnimplementedOpcode with the byte and its address. -/
def illegalOpcode (op : Byte) (s : State) : Result := .next (s.raiseFatal (.unimplementedOpcode op s.fetchAddr))

/-- HALT (rule R910): the halt skip and the dispatch from halt, or the halt bug. -/
def haltCpu (s : State) : Result :=
  if s.ime || !s.interruptAvailable then
    haltSkipThen (fun t => if t.ime || t.params.haltWakeDispatchIme0 then dispatchInterrupt true t else .next t) s
  else .next { s with haltBug := true }

/-- STOP (rule R915), after its ignored byte: the speed switch when armed, which the environment then disarms. -/
def stopCpu (s : State) : Result :=
  if s.env.speedSwitchArmed then
    speedSwitchThen 0 (fun t => .next { t with env := { t.env with speedSwitchArmed := false } }) s
  else .refused .stopWithoutSpeedSwitch

/-! One definition per instruction. -/

/-- NOP (R900). -/
def execNop (s : State) : Result := .next s

/-- STOP (R915). -/
def execStop (_n8 : Byte) (s : State) : Result := stopCpu s

/-- HALT (R910). -/
def execHalt (s : State) : Result := haltCpu s

/-- PREFIX CB (R901). -/
def execPrefixCb (op2 : Byte) (s : State) : Result := runSecondary op2 s

/-- ILLEGAL (R902). -/
def execIllegalD3 (s : State) : Result := illegalOpcode 0xD3#8 s

/-- ILLEGAL (R902). -/
def execIllegalDB (s : State) : Result := illegalOpcode 0xDB#8 s

/-- ILLEGAL (R902). -/
def execIllegalDD (s : State) : Result := illegalOpcode 0xDD#8 s

/-- ILLEGAL (R902). -/
def execIllegalE3 (s : State) : Result := illegalOpcode 0xE3#8 s

/-- ILLEGAL (R902). -/
def execIllegalE4 (s : State) : Result := illegalOpcode 0xE4#8 s

/-- ILLEGAL (R902). -/
def execIllegalEB (s : State) : Result := illegalOpcode 0xEB#8 s

/-- ILLEGAL (R902). -/
def execIllegalEC (s : State) : Result := illegalOpcode 0xEC#8 s

/-- ILLEGAL (R902). -/
def execIllegalED (s : State) : Result := illegalOpcode 0xED#8 s

/-- DI (R920). -/
def execDi (s : State) : Result := .next { s with ime := false }

/-- ILLEGAL (R902). -/
def execIllegalF4 (s : State) : Result := illegalOpcode 0xF4#8 s

/-- EI (R921). -/
def execEi (s : State) : Result := .next (s.addEventRelative .enableInterrupts Config.enableImeDelay .enableIme)

/-- ILLEGAL (R902). -/
def execIllegalFC (s : State) : Result := illegalOpcode 0xFC#8 s

/-- ILLEGAL (R902). -/
def execIllegalFD (s : State) : Result := illegalOpcode 0xFD#8 s

end Sys2Proof.Machine
end

