-- ==== Sys2Proof/Machine/Step.lean ====
section
/-! DEFINITION. The step: one execute() of rule R310. Its parts are operations of Machine/Ops.lean. -/

namespace Sys2Proof.Machine

/-- execute() (rules R310, R315): no step in a broken state. -/
def step (s : State) : Host.Outcome State Fault Refusal :=
  if s.broken then .fault (.broken s.brokenReason)
  else fetchInstrThen (fun i t => completeStep (exec i t)) s.beginExecute

/-- s with an instruction stored where the next step fetches (log entry 9). -/
def State.withFetchWord (s : State) (nbits w : Nat) : State := s.placeBytes (tableBytes nbits w)

end Sys2Proof.Machine
end

