-- ==== Sys2Proof/Safety.lean ====
section
/-! DEFINITION. What counts as a safe run, in the terms the statements use: the invariant of the states between two
steps, the stretches of time in which the environment does nothing, and the normal end of a run. -/

namespace Sys2Proof.Machine

/-- What holds of every state at every moment of a step. -/
structure State.Wf (s : State) : Prop where
  /-- IF & 0xE0 = 0xE0 (rule R121). -/
  ifHigh : s.ifr &&& Config.ifHighBits = Config.ifHighBits
  /-- The environment's memory keeps its canonical form. -/
  memory : Memory.wf s.env.mem
  /-- At most 64 events are pending (rule R143). -/
  capacity : s.events.length ≤ Config.schedCapacity
  /-- The sequence numbers of the pending events were given in order (rule R142). -/
  seqRising : s.events.Pairwise (fun e f => e.seq < f.seq)
  seqGiven : ∀ e ∈ s.events, e.seq < s.nextSeq
  /-- The halt-skip cap is a positive integer (rule R8). -/
  cap : 0 < s.params.haltSkipCap
  /-- The broken flag stands with its reason (rules R133, R1001). -/
  reason : s.broken = s.brokenReason.isSome

/-- What holds of every state outside the tick loop: no pending event is overdue (rule R145). -/
structure State.Sound (s : State) : Prop extends State.Wf s where
  notOverdue : s.broken = false → ∀ e ∈ s.events, s.currentTick ≤ e.dueTick

/-- The invariant between two steps: Sound, and the execute step has left nothing open (rules R130, R132). -/
structure State.Inv (s : State) : Prop extends State.Sound s where
  charged : s.broken = false → s.pendingTicks = 0
  running : s.broken = false → s.cpuMode = .running

/-- Everything that is out of the environment's reach is the same in two states: the registers, the flags, IE and the
CPU control state (rule R1068), the speed mode and the launch parameters. -/
structure State.SameCore (s t : State) : Prop where
  regs : t.regs = s.regs
  flags : t.flags = s.flags
  ie : t.ie = s.ie
  pendingTicks : t.pendingTicks = s.pendingTicks
  haltBug : t.haltBug = s.haltBug
  cpuMode : t.cpuMode = s.cpuMode
  fetchAddr : t.fetchAddr = s.fetchAddr
  doubleSpeed : t.doubleSpeed = s.doubleSpeed
  params : t.params = s.params

/-- The environment does nothing for n ticks: no event falls due in them, and no move of its own is lined up for a
bus access, so its addresses answer from its memory (decision D31's reference RAM). -/
structure State.Quiet (n : Nat) (s : State) : Prop where
  live : s.broken = false
  noReads : s.env.reads = []
  noWrites : s.env.writes = []
  notDue : ∀ e ∈ s.events, s.currentTick + n < e.dueTick

/-- A run ends normally at the first instruction boundary with pc at the launch's END_PC (rule R1230, which also asks
that nothing is broken; a refusal ends the run before such a boundary). -/
def State.endOfRun (endPc : Word) (s : State) : Bool := s.regs.pc == endPc && !s.broken

end Sys2Proof.Machine
end

