-- ==== Sys2Proof/Certificates/Slice0/Obligations.lean ====
section
/-! DEFINITION. The statements for the provers. The first part is their vocabulary: the spec's own arithmetic and its
tables, written again here from the rules and not from the model, and the lists of the instructions each statement
names. The second part is one definition per statement. -/

namespace Sys2Proof.Forms

open Sys2Proof Sys2Proof.Machine

/-! ### Operands -/

/-- Where an 8-bit source operand comes from: a register, the byte at hl, or the immediate. -/
inductive Source where
  | reg (r : Reg8)
  | atHl
  | imm (v : Byte)
  deriving DecidableEq, Repr

/-- The source byte and the state after it is read: only [HL] costs a bus read (rules R210, R330). -/
def Source.read (s : State) : Source → Byte × State
  | .reg r => (s.regs.get8 r, s)
  | .atHl => s.memRead (s.r16 .hl)
  | .imm v => (v, s)

/-- The operand byte of a secondary-table instruction and the state after it is read (rules R322, R330). -/
def readAt (s : State) : CbOperand → Byte × State
  | .reg r => (s.regs.get8 r, s)
  | .atHl => s.memRead (s.r16 .hl)

/-- The state after the operand of a secondary-table instruction is written (rules R322, R330). -/
def writeAt (s : State) (v : Byte) : CbOperand → State
  | .reg r => { s with regs := s.regs.set8 v r }
  | .atHl => s.memWrite (s.r16 .hl) v

/-! ### The spec's arithmetic -/

/-- The flags of add8(x, y, cin) (rule R400). -/
def sumFlags (x y cin : Nat) : Flags :=
  { z := decide ((x + y + cin) % 256 = 0), n := false, h := decide (x % 16 + y % 16 + cin > 15),
    c := decide (x + y + cin > 255) }

/-- The flags of sub8(x, y, cin) (rule R401). -/
def differenceFlags (x y cin : Nat) : Flags :=
  { z := decide (((x : Int) - y - cin) % 256 = 0), n := true, h := decide (((x % 16 : Nat) : Int) - (y % 16 : Nat) - cin < 0),
    c := decide ((x : Int) - y - cin < 0) }

/-- The flags of the bitwise operations (rules R422, R425, R428). -/
def logicFlags (v : Byte) (h : Bool) : Flags := { z := decide (v = 0x00#8), n := false, h := h, c := false }

/-- The result and the carry-out of a rotate or shift of the number x with old carry c (rules R811 to R825). -/
def rotated (op : RotOp) (x c : Nat) : Nat × Bool :=
  match op with
  | .rlc => ((2 * x + x / 128) % 256, decide (x / 128 = 1))
  | .rrc => (x / 2 + 128 * (x % 2), decide (x % 2 = 1))
  | .rl => ((2 * x + c) % 256, decide (x / 128 = 1))
  | .rr => (x / 2 + 128 * c, decide (x % 2 = 1))
  | .sla => (2 * x % 256, decide (x / 128 = 1))
  | .sra => (x / 2 + 128 * (x / 128), decide (x % 2 = 1))
  | .swap => (16 * (x % 16) + x / 16, false)
  | .srl => (x / 2, decide (x % 2 = 1))

/-- A word plus a signed displacement, modulo 65536 (rules R9, R335). -/
def displaced (x : Word) (e : Byte) : Word :=
  BitVec.ofInt 16 ((x.toNat : Int) + (if e.toNat ≥ 128 then (e.toNat : Int) - 256 else e.toNat))

/-- The flag byte F of the four flags (rule R111). -/
def flagByte (f : Flags) : Nat := 128 * f.z.toNat + 64 * f.n.toNat + 32 * f.h.toNat + 16 * f.c.toNat

/-- The word of a stack pair (rules R101, R332). -/
def pairWord (s : State) : StackPair → Word
  | .bc => Word.ofBytes s.regs.b s.regs.c
  | .de => Word.ofBytes s.regs.d s.regs.e
  | .hl => Word.ofBytes s.regs.h s.regs.l
  | .af => Word.ofBytes s.regs.a (BitVec.ofNat 8 (flagByte s.flags))

/-- The state after a stack pair is written from its high and low byte (rules R101, R112, R332). -/
def writePair (s : State) (hi lo : Byte) : StackPair → State
  | .bc => { s with regs := { s.regs with b := hi, c := lo } }
  | .de => { s with regs := { s.regs with d := hi, e := lo } }
  | .hl => { s with regs := { s.regs with h := hi, l := lo } }
  | .af => { s with regs := { s.regs with a := hi },
                    flags := { z := lo.getLsbD 7, n := lo.getLsbD 6, h := lo.getLsbD 5, c := lo.getLsbD 4 } }

/-! ### The stack -/

/-- The state after the first byte of a push, the high one (rules R230, R232). -/
def pushFirst (s : State) (w : Word) : State := (s.setSp (s.regs.sp - 1)).memWrite (s.regs.sp - 1) w.hi

/-- The state after both bytes of a push (rules R230, R232). -/
def pushBoth (s : State) (w : Word) : State := ((pushFirst s w).setSp (s.regs.sp - 2)).memWrite (s.regs.sp - 2) w.lo

/-- The low byte of a pop and the state after it is read (rules R231, R233). -/
def popFirst (s : State) : Byte × State := s.memRead s.regs.sp

/-- The high byte of a pop and the state after it is read (rules R231, R233). -/
def popSecond (s : State) : Byte × State := ((popFirst s).2.setSp (s.regs.sp + 1)).memRead (s.regs.sp + 1)

/-- The state after a pop, with sp past both bytes (rules R231, R233). -/
def popDone (s : State) : State := (popSecond s).2.setSp (s.regs.sp + 2)

/-- The word a pop answers (rule R233). -/
def popWord (s : State) : Word := Word.ofBytes (popSecond s).1 (popFirst s).1

/-! ### The instructions by form -/

/-- The forms of ADD with their source (rules R410 to R412). -/
def addForms (n8 : Byte) : List (Instr × Source) :=
  [(.addAB, .reg .b), (.addAC, .reg .c), (.addAD, .reg .d), (.addAE, .reg .e), (.addAH, .reg .h),
   (.addAL, .reg .l), (.addAAtHl, .atHl), (.addAA, .reg .a), (.addAN8 n8, .imm n8)]

/-- The forms of ADC with their source (rules R413 to R415). -/
def adcForms (n8 : Byte) : List (Instr × Source) :=
  [(.adcAB, .reg .b), (.adcAC, .reg .c), (.adcAD, .reg .d), (.adcAE, .reg .e), (.adcAH, .reg .h),
   (.adcAL, .reg .l), (.adcAAtHl, .atHl), (.adcAA, .reg .a), (.adcAN8 n8, .imm n8)]

/-- The forms of SUB with their source (rules R416 to R418). -/
def subForms (n8 : Byte) : List (Instr × Source) :=
  [(.subAB, .reg .b), (.subAC, .reg .c), (.subAD, .reg .d), (.subAE, .reg .e), (.subAH, .reg .h),
   (.subAL, .reg .l), (.subAAtHl, .atHl), (.subAA, .reg .a), (.subAN8 n8, .imm n8)]

/-- The forms of SBC with their source (rules R419 to R421). -/
def sbcForms (n8 : Byte) : List (Instr × Source) :=
  [(.sbcAB, .reg .b), (.sbcAC, .reg .c), (.sbcAD, .reg .d), (.sbcAE, .reg .e), (.sbcAH, .reg .h),
   (.sbcAL, .reg .l), (.sbcAAtHl, .atHl), (.sbcAA, .reg .a), (.sbcAN8 n8, .imm n8)]

/-- The forms of AND with their source (rules R422 to R424). -/
def andForms (n8 : Byte) : List (Instr × Source) :=
  [(.andAB, .reg .b), (.andAC, .reg .c), (.andAD, .reg .d), (.andAE, .reg .e), (.andAH, .reg .h),
   (.andAL, .reg .l), (.andAAtHl, .atHl), (.andAA, .reg .a), (.andAN8 n8, .imm n8)]

/-- The forms of XOR with their source (rules R425 to R427). -/
def xorForms (n8 : Byte) : List (Instr × Source) :=
  [(.xorAB, .reg .b), (.xorAC, .reg .c), (.xorAD, .reg .d), (.xorAE, .reg .e), (.xorAH, .reg .h),
   (.xorAL, .reg .l), (.xorAAtHl, .atHl), (.xorAA, .reg .a), (.xorAN8 n8, .imm n8)]

/-- The forms of OR with their source (rules R428 to R430). -/
def orForms (n8 : Byte) : List (Instr × Source) :=
  [(.orAB, .reg .b), (.orAC, .reg .c), (.orAD, .reg .d), (.orAE, .reg .e), (.orAH, .reg .h), (.orAL, .reg .l),
   (.orAAtHl, .atHl), (.orAA, .reg .a), (.orAN8 n8, .imm n8)]

/-- The forms of CP with their source (rules R431 to R433). -/
def cpForms (n8 : Byte) : List (Instr × Source) :=
  [(.cpAB, .reg .b), (.cpAC, .reg .c), (.cpAD, .reg .d), (.cpAE, .reg .e), (.cpAH, .reg .h), (.cpAL, .reg .l),
   (.cpAAtHl, .atHl), (.cpAA, .reg .a), (.cpAN8 n8, .imm n8)]

/-- INC r (rule R440). -/
def incForms : List (Instr × Reg8) :=
  [(.incB, .b), (.incC, .c), (.incD, .d), (.incE, .e), (.incH, .h), (.incL, .l), (.incA, .a)]

/-- DEC r (rule R442). -/
def decForms : List (Instr × Reg8) :=
  [(.decB, .b), (.decC, .c), (.decD, .d), (.decE, .e), (.decH, .h), (.decL, .l), (.decA, .a)]

/-- LD r,r' with destination and source (rule R500). -/
def copyForms : List (Instr × Reg8 × Reg8) :=
  [(.ldBB, .b, .b), (.ldBC, .b, .c), (.ldBD, .b, .d), (.ldBE, .b, .e), (.ldBH, .b, .h), (.ldBL, .b, .l),
   (.ldBA, .b, .a), (.ldCB, .c, .b), (.ldCC, .c, .c), (.ldCD, .c, .d), (.ldCE, .c, .e), (.ldCH, .c, .h),
   (.ldCL, .c, .l), (.ldCA, .c, .a), (.ldDB, .d, .b), (.ldDC, .d, .c), (.ldDD, .d, .d), (.ldDE, .d, .e),
   (.ldDH, .d, .h), (.ldDL, .d, .l), (.ldDA, .d, .a), (.ldEB, .e, .b), (.ldEC, .e, .c), (.ldED, .e, .d),
   (.ldEE, .e, .e), (.ldEH, .e, .h), (.ldEL, .e, .l), (.ldEA, .e, .a), (.ldHB, .h, .b), (.ldHC, .h, .c),
   (.ldHD, .h, .d), (.ldHE, .h, .e), (.ldHH, .h, .h), (.ldHL, .h, .l), (.ldHA, .h, .a), (.ldLB, .l, .b),
   (.ldLC, .l, .c), (.ldLD, .l, .d), (.ldLE, .l, .e), (.ldLH, .l, .h), (.ldLL, .l, .l), (.ldLA, .l, .a),
   (.ldAB, .a, .b), (.ldAC, .a, .c), (.ldAD, .a, .d), (.ldAE, .a, .e), (.ldAH, .a, .h), (.ldAL, .a, .l),
   (.ldAA, .a, .a)]

/-- LD r,n8 (rule R501). -/
def immForms (n8 : Byte) : List (Instr × Reg8) :=
  [(.ldBN8 n8, .b), (.ldCN8 n8, .c), (.ldDN8 n8, .d), (.ldEN8 n8, .e), (.ldHN8 n8, .h), (.ldLN8 n8, .l),
   (.ldAN8 n8, .a)]

/-- The loads of a register from memory, with the register and the address (rules R502, R505, R506, R509, R511, R513). -/
def loadForms (n8 : Byte) (n16 : Word) (s : State) : List (Instr × Reg8 × Word) :=
  [(.ldBAtHl, .b, s.r16 .hl), (.ldCAtHl, .c, s.r16 .hl), (.ldDAtHl, .d, s.r16 .hl), (.ldEAtHl, .e, s.r16 .hl),
   (.ldHAtHl, .h, s.r16 .hl), (.ldLAtHl, .l, s.r16 .hl), (.ldAAtHl, .a, s.r16 .hl), (.ldAAtBc, .a, s.r16 .bc),
   (.ldAAtDe, .a, s.r16 .de), (.ldAAtN16 n16, .a, n16), (.ldhAAtN8 n8, .a, 0xFF00#16 + n8.zeroExtend 16),
   (.ldhAAtC, .a, 0xFF00#16 + s.regs.c.zeroExtend 16)]

/-- The one-byte stores, with the address and the byte (rules R503, R504, R507, R508, R510, R512, R514). -/
def storeForms (n8 : Byte) (n16 : Word) (s : State) : List (Instr × Word × Byte) :=
  [(.ldAtHlB, s.r16 .hl, s.regs.b), (.ldAtHlC, s.r16 .hl, s.regs.c), (.ldAtHlD, s.r16 .hl, s.regs.d),
   (.ldAtHlE, s.r16 .hl, s.regs.e), (.ldAtHlH, s.r16 .hl, s.regs.h), (.ldAtHlL, s.r16 .hl, s.regs.l),
   (.ldAtHlA, s.r16 .hl, s.regs.a), (.ldAtHlN8 n8, s.r16 .hl, n8), (.ldAtBcA, s.r16 .bc, s.regs.a),
   (.ldAtDeA, s.r16 .de, s.regs.a), (.ldAtN16A n16, n16, s.regs.a),
   (.ldhAtN8A n8, 0xFF00#16 + n8.zeroExtend 16, s.regs.a), (.ldhAtCA, 0xFF00#16 + s.regs.c.zeroExtend 16, s.regs.a)]

/-- LD rr,n16 (rule R530). -/
def pairImmForms (n16 : Word) : List (Instr × Reg16) :=
  [(.ldBcN16 n16, .bc), (.ldDeN16 n16, .de), (.ldHlN16 n16, .hl), (.ldSpN16 n16, .sp)]

/-- INC rr (rule R600). -/
def incPairForms : List (Instr × Reg16) :=
  [(.incBc, .bc), (.incDe, .de), (.incHl, .hl), (.incSp, .sp)]

/-- DEC rr (rule R601). -/
def decPairForms : List (Instr × Reg16) :=
  [(.decBc, .bc), (.decDe, .de), (.decHl, .hl), (.decSp, .sp)]

/-- ADD HL,rr (rule R602). -/
def addPairForms : List (Instr × Reg16) :=
  [(.addHlBc, .bc), (.addHlDe, .de), (.addHlHl, .hl), (.addHlSp, .sp)]

/-- PUSH rr (rule R540). -/
def pushForms : List (Instr × StackPair) :=
  [(.pushBc, .bc), (.pushDe, .de), (.pushHl, .hl), (.pushAf, .af)]

/-- POP rr (rule R541). -/
def popForms : List (Instr × StackPair) :=
  [(.popBc, .bc), (.popDe, .de), (.popHl, .hl), (.popAf, .af)]

/-- JP n16 and JP cc,n16 with whether the jump is taken (rules R334, R700, R701). -/
def jumpForms (n16 : Word) (s : State) : List (Instr × Bool) :=
  [(.jpN16 n16, true), (.jpNzN16 n16, !s.flags.z), (.jpZN16 n16, s.flags.z), (.jpNcN16 n16, !s.flags.c),
   (.jpCN16 n16, s.flags.c)]

/-- JR e8 and JR cc,e8 with whether the jump is taken (rules R334, R710, R711). -/
def jumpRelForms (e8 : Byte) (s : State) : List (Instr × Bool) :=
  [(.jrE8 e8, true), (.jrNzE8 e8, !s.flags.z), (.jrZE8 e8, s.flags.z), (.jrNcE8 e8, !s.flags.c),
   (.jrCE8 e8, s.flags.c)]

/-- The calls and restarts, with the target and whether the call is taken (rules R334, R720, R721, R730). -/
def callForms (n16 : Word) (s : State) : List (Instr × Word × Bool) :=
  [(.callN16 n16, n16, true), (.callNzN16 n16, n16, !s.flags.z), (.callZN16 n16, n16, s.flags.z),
   (.callNcN16 n16, n16, !s.flags.c), (.callCN16 n16, n16, s.flags.c), (.rst00, 0x0000#16, true),
   (.rst08, 0x0008#16, true), (.rst10, 0x0010#16, true), (.rst18, 0x0018#16, true), (.rst20, 0x0020#16, true),
   (.rst28, 0x0028#16, true), (.rst30, 0x0030#16, true), (.rst38, 0x0038#16, true)]

/-- RET and RET cc, with the internal cycles before the pop and whether the return is taken (rules R722, R723). -/
def retForms (s : State) : List (Instr × Nat × Bool) :=
  [(.ret, 0, true), (.retNz, 1, !s.flags.z), (.retZ, 1, s.flags.z), (.retNc, 1, !s.flags.c), (.retC, 1, s.flags.c)]

/-- The accumulator rotates (rules R800 to R803). -/
def rotAccForms : List (Instr × RotOp) :=
  [(.rlca, .rlc), (.rrca, .rrc), (.rla, .rl), (.rra, .rr)]

/-- The secondary-table rotates and shifts (rules R810 to R826). -/
def rotForms : List (Instr × RotOp × CbOperand) :=
  [(.rlcB, .rlc, .reg .b), (.rlcC, .rlc, .reg .c), (.rlcD, .rlc, .reg .d), (.rlcE, .rlc, .reg .e),
   (.rlcH, .rlc, .reg .h), (.rlcL, .rlc, .reg .l), (.rlcAtHl, .rlc, .atHl), (.rlcA, .rlc, .reg .a),
   (.rrcB, .rrc, .reg .b), (.rrcC, .rrc, .reg .c), (.rrcD, .rrc, .reg .d), (.rrcE, .rrc, .reg .e),
   (.rrcH, .rrc, .reg .h), (.rrcL, .rrc, .reg .l), (.rrcAtHl, .rrc, .atHl), (.rrcA, .rrc, .reg .a),
   (.rlB, .rl, .reg .b), (.rlC, .rl, .reg .c), (.rlD, .rl, .reg .d), (.rlE, .rl, .reg .e), (.rlH, .rl, .reg .h),
   (.rlL, .rl, .reg .l), (.rlAtHl, .rl, .atHl), (.rlA, .rl, .reg .a), (.rrB, .rr, .reg .b), (.rrC, .rr, .reg .c),
   (.rrD, .rr, .reg .d), (.rrE, .rr, .reg .e), (.rrH, .rr, .reg .h), (.rrL, .rr, .reg .l), (.rrAtHl, .rr, .atHl),
   (.rrA, .rr, .reg .a), (.slaB, .sla, .reg .b), (.slaC, .sla, .reg .c), (.slaD, .sla, .reg .d),
   (.slaE, .sla, .reg .e), (.slaH, .sla, .reg .h), (.slaL, .sla, .reg .l), (.slaAtHl, .sla, .atHl),
   (.slaA, .sla, .reg .a), (.sraB, .sra, .reg .b), (.sraC, .sra, .reg .c), (.sraD, .sra, .reg .d),
   (.sraE, .sra, .reg .e), (.sraH, .sra, .reg .h), (.sraL, .sra, .reg .l), (.sraAtHl, .sra, .atHl),
   (.sraA, .sra, .reg .a), (.swapB, .swap, .reg .b), (.swapC, .swap, .reg .c), (.swapD, .swap, .reg .d),
   (.swapE, .swap, .reg .e), (.swapH, .swap, .reg .h), (.swapL, .swap, .reg .l), (.swapAtHl, .swap, .atHl),
   (.swapA, .swap, .reg .a), (.srlB, .srl, .reg .b), (.srlC, .srl, .reg .c), (.srlD, .srl, .reg .d),
   (.srlE, .srl, .reg .e), (.srlH, .srl, .reg .h), (.srlL, .srl, .reg .l), (.srlAtHl, .srl, .atHl),
   (.srlA, .srl, .reg .a)]

/-- BIT b with the bit number and the operand (rules R830, R831). -/
def bitForms : List (Instr × Nat × CbOperand) :=
  [(.bit0B, 0, .reg .b), (.bit0C, 0, .reg .c), (.bit0D, 0, .reg .d), (.bit0E, 0, .reg .e), (.bit0H, 0, .reg .h),
   (.bit0L, 0, .reg .l), (.bit0AtHl, 0, .atHl), (.bit0A, 0, .reg .a), (.bit1B, 1, .reg .b), (.bit1C, 1, .reg .c),
   (.bit1D, 1, .reg .d), (.bit1E, 1, .reg .e), (.bit1H, 1, .reg .h), (.bit1L, 1, .reg .l), (.bit1AtHl, 1, .atHl),
   (.bit1A, 1, .reg .a), (.bit2B, 2, .reg .b), (.bit2C, 2, .reg .c), (.bit2D, 2, .reg .d), (.bit2E, 2, .reg .e),
   (.bit2H, 2, .reg .h), (.bit2L, 2, .reg .l), (.bit2AtHl, 2, .atHl), (.bit2A, 2, .reg .a), (.bit3B, 3, .reg .b),
   (.bit3C, 3, .reg .c), (.bit3D, 3, .reg .d), (.bit3E, 3, .reg .e), (.bit3H, 3, .reg .h), (.bit3L, 3, .reg .l),
   (.bit3AtHl, 3, .atHl), (.bit3A, 3, .reg .a), (.bit4B, 4, .reg .b), (.bit4C, 4, .reg .c), (.bit4D, 4, .reg .d),
   (.bit4E, 4, .reg .e), (.bit4H, 4, .reg .h), (.bit4L, 4, .reg .l), (.bit4AtHl, 4, .atHl), (.bit4A, 4, .reg .a),
   (.bit5B, 5, .reg .b), (.bit5C, 5, .reg .c), (.bit5D, 5, .reg .d), (.bit5E, 5, .reg .e), (.bit5H, 5, .reg .h),
   (.bit5L, 5, .reg .l), (.bit5AtHl, 5, .atHl), (.bit5A, 5, .reg .a), (.bit6B, 6, .reg .b), (.bit6C, 6, .reg .c),
   (.bit6D, 6, .reg .d), (.bit6E, 6, .reg .e), (.bit6H, 6, .reg .h), (.bit6L, 6, .reg .l), (.bit6AtHl, 6, .atHl),
   (.bit6A, 6, .reg .a), (.bit7B, 7, .reg .b), (.bit7C, 7, .reg .c), (.bit7D, 7, .reg .d), (.bit7E, 7, .reg .e),
   (.bit7H, 7, .reg .h), (.bit7L, 7, .reg .l), (.bit7AtHl, 7, .atHl), (.bit7A, 7, .reg .a)]

/-- RES b with the bit number and the operand (rules R832, R833). -/
def resForms : List (Instr × Nat × CbOperand) :=
  [(.res0B, 0, .reg .b), (.res0C, 0, .reg .c), (.res0D, 0, .reg .d), (.res0E, 0, .reg .e), (.res0H, 0, .reg .h),
   (.res0L, 0, .reg .l), (.res0AtHl, 0, .atHl), (.res0A, 0, .reg .a), (.res1B, 1, .reg .b), (.res1C, 1, .reg .c),
   (.res1D, 1, .reg .d), (.res1E, 1, .reg .e), (.res1H, 1, .reg .h), (.res1L, 1, .reg .l), (.res1AtHl, 1, .atHl),
   (.res1A, 1, .reg .a), (.res2B, 2, .reg .b), (.res2C, 2, .reg .c), (.res2D, 2, .reg .d), (.res2E, 2, .reg .e),
   (.res2H, 2, .reg .h), (.res2L, 2, .reg .l), (.res2AtHl, 2, .atHl), (.res2A, 2, .reg .a), (.res3B, 3, .reg .b),
   (.res3C, 3, .reg .c), (.res3D, 3, .reg .d), (.res3E, 3, .reg .e), (.res3H, 3, .reg .h), (.res3L, 3, .reg .l),
   (.res3AtHl, 3, .atHl), (.res3A, 3, .reg .a), (.res4B, 4, .reg .b), (.res4C, 4, .reg .c), (.res4D, 4, .reg .d),
   (.res4E, 4, .reg .e), (.res4H, 4, .reg .h), (.res4L, 4, .reg .l), (.res4AtHl, 4, .atHl), (.res4A, 4, .reg .a),
   (.res5B, 5, .reg .b), (.res5C, 5, .reg .c), (.res5D, 5, .reg .d), (.res5E, 5, .reg .e), (.res5H, 5, .reg .h),
   (.res5L, 5, .reg .l), (.res5AtHl, 5, .atHl), (.res5A, 5, .reg .a), (.res6B, 6, .reg .b), (.res6C, 6, .reg .c),
   (.res6D, 6, .reg .d), (.res6E, 6, .reg .e), (.res6H, 6, .reg .h), (.res6L, 6, .reg .l), (.res6AtHl, 6, .atHl),
   (.res6A, 6, .reg .a), (.res7B, 7, .reg .b), (.res7C, 7, .reg .c), (.res7D, 7, .reg .d), (.res7E, 7, .reg .e),
   (.res7H, 7, .reg .h), (.res7L, 7, .reg .l), (.res7AtHl, 7, .atHl), (.res7A, 7, .reg .a)]

/-- SET b with the bit number and the operand (rules R834, R835). -/
def setForms : List (Instr × Nat × CbOperand) :=
  [(.set0B, 0, .reg .b), (.set0C, 0, .reg .c), (.set0D, 0, .reg .d), (.set0E, 0, .reg .e), (.set0H, 0, .reg .h),
   (.set0L, 0, .reg .l), (.set0AtHl, 0, .atHl), (.set0A, 0, .reg .a), (.set1B, 1, .reg .b), (.set1C, 1, .reg .c),
   (.set1D, 1, .reg .d), (.set1E, 1, .reg .e), (.set1H, 1, .reg .h), (.set1L, 1, .reg .l), (.set1AtHl, 1, .atHl),
   (.set1A, 1, .reg .a), (.set2B, 2, .reg .b), (.set2C, 2, .reg .c), (.set2D, 2, .reg .d), (.set2E, 2, .reg .e),
   (.set2H, 2, .reg .h), (.set2L, 2, .reg .l), (.set2AtHl, 2, .atHl), (.set2A, 2, .reg .a), (.set3B, 3, .reg .b),
   (.set3C, 3, .reg .c), (.set3D, 3, .reg .d), (.set3E, 3, .reg .e), (.set3H, 3, .reg .h), (.set3L, 3, .reg .l),
   (.set3AtHl, 3, .atHl), (.set3A, 3, .reg .a), (.set4B, 4, .reg .b), (.set4C, 4, .reg .c), (.set4D, 4, .reg .d),
   (.set4E, 4, .reg .e), (.set4H, 4, .reg .h), (.set4L, 4, .reg .l), (.set4AtHl, 4, .atHl), (.set4A, 4, .reg .a),
   (.set5B, 5, .reg .b), (.set5C, 5, .reg .c), (.set5D, 5, .reg .d), (.set5E, 5, .reg .e), (.set5H, 5, .reg .h),
   (.set5L, 5, .reg .l), (.set5AtHl, 5, .atHl), (.set5A, 5, .reg .a), (.set6B, 6, .reg .b), (.set6C, 6, .reg .c),
   (.set6D, 6, .reg .d), (.set6E, 6, .reg .e), (.set6H, 6, .reg .h), (.set6L, 6, .reg .l), (.set6AtHl, 6, .atHl),
   (.set6A, 6, .reg .a), (.set7B, 7, .reg .b), (.set7C, 7, .reg .c), (.set7D, 7, .reg .d), (.set7E, 7, .reg .e),
   (.set7H, 7, .reg .h), (.set7L, 7, .reg .l), (.set7AtHl, 7, .atHl), (.set7A, 7, .reg .a)]

/-- The eleven illegal opcodes (rule R350). -/
def illegalForms : List (Instr × Byte) :=
  [(.illegalD3, 0xD3#8), (.illegalDB, 0xDB#8), (.illegalDD, 0xDD#8), (.illegalE3, 0xE3#8), (.illegalE4, 0xE4#8),
   (.illegalEB, 0xEB#8), (.illegalEC, 0xEC#8), (.illegalED, 0xED#8), (.illegalF4, 0xF4#8), (.illegalFC, 0xFC#8),
   (.illegalFD, 0xFD#8)]

/-! ### The opcode table: length, ticks (taken and not taken) and flags (rules R340, R341, spec/opcode_table.json) -/

/-- What a row says of one flag: unchanged (-), 0, 1, or computed (a letter). -/
inductive FlagRule where
  | keep
  | zero
  | one
  | computed
  deriving DecidableEq, Repr

/-- Whether a flag's old and new values fit a row. -/
def FlagRule.fits (old new : Bool) : FlagRule → Bool
  | .keep => new == old
  | .zero => !new
  | .one => new
  | .computed => true

/-- A row's four flags, in the order Z, N, H, C. -/
structure FlagRow where
  z : FlagRule
  n : FlagRule
  h : FlagRule
  c : FlagRule
  deriving DecidableEq, Repr

def FlagRow.fits (r : FlagRow) (old new : Flags) : Bool :=
  r.z.fits old.z new.z && r.n.fits old.n new.n && r.h.fits old.h new.h && r.c.fits old.c new.c

/-- Z unchanged, N unchanged, H unchanged, C unchanged. -/
def keepAll : FlagRow := ⟨.keep, .keep, .keep, .keep⟩
/-- Z computed, N 0, H computed, C computed. -/
def additive : FlagRow := ⟨.computed, .zero, .computed, .computed⟩
/-- Z computed, N 1, H computed, C computed. -/
def subtractive : FlagRow := ⟨.computed, .one, .computed, .computed⟩
/-- Z computed, N 0, H 0, C 0. -/
def logical : FlagRow := ⟨.computed, .zero, .zero, .zero⟩
/-- Z computed, N 0, H 1, C 0. -/
def conjunctive : FlagRow := ⟨.computed, .zero, .one, .zero⟩
/-- Z computed, N 0, H computed, C unchanged. -/
def incremented : FlagRow := ⟨.computed, .zero, .computed, .keep⟩
/-- Z computed, N 1, H computed, C unchanged. -/
def decremented : FlagRow := ⟨.computed, .one, .computed, .keep⟩
/-- Z 0, N 0, H 0, C computed. -/
def rotatedAcc : FlagRow := ⟨.zero, .zero, .zero, .computed⟩
/-- Z unchanged, N 0, H computed, C computed. -/
def addedPair : FlagRow := ⟨.keep, .zero, .computed, .computed⟩
/-- Z 0, N 0, H computed, C computed. -/
def addedSigned : FlagRow := ⟨.zero, .zero, .computed, .computed⟩
/-- Z computed, N unchanged, H 0, C computed. -/
def adjusted : FlagRow := ⟨.computed, .keep, .zero, .computed⟩
/-- Z unchanged, N 1, H 1, C unchanged. -/
def complemented : FlagRow := ⟨.keep, .one, .one, .keep⟩
/-- Z unchanged, N 0, H 0, C 1. -/
def carrySet : FlagRow := ⟨.keep, .zero, .zero, .one⟩
/-- Z unchanged, N 0, H 0, C computed. -/
def carryFlipped : FlagRow := ⟨.keep, .zero, .zero, .computed⟩
/-- Z computed, N computed, H computed, C computed. -/
def popped : FlagRow := ⟨.computed, .computed, .computed, .computed⟩
/-- Z computed, N 0, H 1, C unchanged. -/
def bitTested : FlagRow := ⟨.computed, .zero, .one, .keep⟩
/-- Z computed, N 0, H 0, C computed. -/
def shifted : FlagRow := ⟨.computed, .zero, .zero, .computed⟩

/-- A row: length in bytes, ticks, ticks where a conditional form is not taken, flags. -/
structure TableRow where
  length : Nat
  ticks : Nat
  notTaken : Nat
  flags : FlagRow
  deriving DecidableEq, Repr

/-- Row 0x of the table. -/
def tableRow0 : List TableRow :=
  [⟨1, 4, 4, keepAll⟩, ⟨3, 12, 12, keepAll⟩, ⟨1, 8, 8, keepAll⟩, ⟨1, 8, 8, keepAll⟩, ⟨1, 4, 4, incremented⟩,
   ⟨1, 4, 4, decremented⟩, ⟨2, 8, 8, keepAll⟩, ⟨1, 4, 4, rotatedAcc⟩, ⟨3, 20, 20, keepAll⟩, ⟨1, 8, 8, addedPair⟩,
   ⟨1, 8, 8, keepAll⟩, ⟨1, 8, 8, keepAll⟩, ⟨1, 4, 4, incremented⟩, ⟨1, 4, 4, decremented⟩, ⟨2, 8, 8, keepAll⟩,
   ⟨1, 4, 4, rotatedAcc⟩]

/-- Row 1x of the table. -/
def tableRow1 : List TableRow :=
  [⟨2, 8, 8, keepAll⟩, ⟨3, 12, 12, keepAll⟩, ⟨1, 8, 8, keepAll⟩, ⟨1, 8, 8, keepAll⟩, ⟨1, 4, 4, incremented⟩,
   ⟨1, 4, 4, decremented⟩, ⟨2, 8, 8, keepAll⟩, ⟨1, 4, 4, rotatedAcc⟩, ⟨2, 12, 12, keepAll⟩, ⟨1, 8, 8, addedPair⟩,
   ⟨1, 8, 8, keepAll⟩, ⟨1, 8, 8, keepAll⟩, ⟨1, 4, 4, incremented⟩, ⟨1, 4, 4, decremented⟩, ⟨2, 8, 8, keepAll⟩,
   ⟨1, 4, 4, rotatedAcc⟩]

/-- Row 2x of the table. -/
def tableRow2 : List TableRow :=
  [⟨2, 12, 8, keepAll⟩, ⟨3, 12, 12, keepAll⟩, ⟨1, 8, 8, keepAll⟩, ⟨1, 8, 8, keepAll⟩, ⟨1, 4, 4, incremented⟩,
   ⟨1, 4, 4, decremented⟩, ⟨2, 8, 8, keepAll⟩, ⟨1, 4, 4, adjusted⟩, ⟨2, 12, 8, keepAll⟩, ⟨1, 8, 8, addedPair⟩,
   ⟨1, 8, 8, keepAll⟩, ⟨1, 8, 8, keepAll⟩, ⟨1, 4, 4, incremented⟩, ⟨1, 4, 4, decremented⟩, ⟨2, 8, 8, keepAll⟩,
   ⟨1, 4, 4, complemented⟩]

/-- Row 3x of the table. -/
def tableRow3 : List TableRow :=
  [⟨2, 12, 8, keepAll⟩, ⟨3, 12, 12, keepAll⟩, ⟨1, 8, 8, keepAll⟩, ⟨1, 8, 8, keepAll⟩, ⟨1, 12, 12, incremented⟩,
   ⟨1, 12, 12, decremented⟩, ⟨2, 12, 12, keepAll⟩, ⟨1, 4, 4, carrySet⟩, ⟨2, 12, 8, keepAll⟩, ⟨1, 8, 8, addedPair⟩,
   ⟨1, 8, 8, keepAll⟩, ⟨1, 8, 8, keepAll⟩, ⟨1, 4, 4, incremented⟩, ⟨1, 4, 4, decremented⟩, ⟨2, 8, 8, keepAll⟩,
   ⟨1, 4, 4, carryFlipped⟩]

/-- Row 4x of the table. -/
def tableRow4 : List TableRow :=
  [⟨1, 4, 4, keepAll⟩, ⟨1, 4, 4, keepAll⟩, ⟨1, 4, 4, keepAll⟩, ⟨1, 4, 4, keepAll⟩, ⟨1, 4, 4, keepAll⟩,
   ⟨1, 4, 4, keepAll⟩, ⟨1, 8, 8, keepAll⟩, ⟨1, 4, 4, keepAll⟩, ⟨1, 4, 4, keepAll⟩, ⟨1, 4, 4, keepAll⟩,
   ⟨1, 4, 4, keepAll⟩, ⟨1, 4, 4, keepAll⟩, ⟨1, 4, 4, keepAll⟩, ⟨1, 4, 4, keepAll⟩, ⟨1, 8, 8, keepAll⟩,
   ⟨1, 4, 4, keepAll⟩]

/-- Row 5x of the table. -/
def tableRow5 : List TableRow :=
  [⟨1, 4, 4, keepAll⟩, ⟨1, 4, 4, keepAll⟩, ⟨1, 4, 4, keepAll⟩, ⟨1, 4, 4, keepAll⟩, ⟨1, 4, 4, keepAll⟩,
   ⟨1, 4, 4, keepAll⟩, ⟨1, 8, 8, keepAll⟩, ⟨1, 4, 4, keepAll⟩, ⟨1, 4, 4, keepAll⟩, ⟨1, 4, 4, keepAll⟩,
   ⟨1, 4, 4, keepAll⟩, ⟨1, 4, 4, keepAll⟩, ⟨1, 4, 4, keepAll⟩, ⟨1, 4, 4, keepAll⟩, ⟨1, 8, 8, keepAll⟩,
   ⟨1, 4, 4, keepAll⟩]

/-- Row 6x of the table. -/
def tableRow6 : List TableRow :=
  [⟨1, 4, 4, keepAll⟩, ⟨1, 4, 4, keepAll⟩, ⟨1, 4, 4, keepAll⟩, ⟨1, 4, 4, keepAll⟩, ⟨1, 4, 4, keepAll⟩,
   ⟨1, 4, 4, keepAll⟩, ⟨1, 8, 8, keepAll⟩, ⟨1, 4, 4, keepAll⟩, ⟨1, 4, 4, keepAll⟩, ⟨1, 4, 4, keepAll⟩,
   ⟨1, 4, 4, keepAll⟩, ⟨1, 4, 4, keepAll⟩, ⟨1, 4, 4, keepAll⟩, ⟨1, 4, 4, keepAll⟩, ⟨1, 8, 8, keepAll⟩,
   ⟨1, 4, 4, keepAll⟩]

/-- Row 7x of the table. -/
def tableRow7 : List TableRow :=
  [⟨1, 8, 8, keepAll⟩, ⟨1, 8, 8, keepAll⟩, ⟨1, 8, 8, keepAll⟩, ⟨1, 8, 8, keepAll⟩, ⟨1, 8, 8, keepAll⟩,
   ⟨1, 8, 8, keepAll⟩, ⟨1, 4, 4, keepAll⟩, ⟨1, 8, 8, keepAll⟩, ⟨1, 4, 4, keepAll⟩, ⟨1, 4, 4, keepAll⟩,
   ⟨1, 4, 4, keepAll⟩, ⟨1, 4, 4, keepAll⟩, ⟨1, 4, 4, keepAll⟩, ⟨1, 4, 4, keepAll⟩, ⟨1, 8, 8, keepAll⟩,
   ⟨1, 4, 4, keepAll⟩]

/-- Row 8x of the table. -/
def tableRow8 : List TableRow :=
  [⟨1, 4, 4, additive⟩, ⟨1, 4, 4, additive⟩, ⟨1, 4, 4, additive⟩, ⟨1, 4, 4, additive⟩, ⟨1, 4, 4, additive⟩,
   ⟨1, 4, 4, additive⟩, ⟨1, 8, 8, additive⟩, ⟨1, 4, 4, additive⟩, ⟨1, 4, 4, additive⟩, ⟨1, 4, 4, additive⟩,
   ⟨1, 4, 4, additive⟩, ⟨1, 4, 4, additive⟩, ⟨1, 4, 4, additive⟩, ⟨1, 4, 4, additive⟩, ⟨1, 8, 8, additive⟩,
   ⟨1, 4, 4, additive⟩]

/-- Row 9x of the table. -/
def tableRow9 : List TableRow :=
  [⟨1, 4, 4, subtractive⟩, ⟨1, 4, 4, subtractive⟩, ⟨1, 4, 4, subtractive⟩, ⟨1, 4, 4, subtractive⟩,
   ⟨1, 4, 4, subtractive⟩, ⟨1, 4, 4, subtractive⟩, ⟨1, 8, 8, subtractive⟩, ⟨1, 4, 4, subtractive⟩,
   ⟨1, 4, 4, subtractive⟩, ⟨1, 4, 4, subtractive⟩, ⟨1, 4, 4, subtractive⟩, ⟨1, 4, 4, subtractive⟩,
   ⟨1, 4, 4, subtractive⟩, ⟨1, 4, 4, subtractive⟩, ⟨1, 8, 8, subtractive⟩, ⟨1, 4, 4, subtractive⟩]

/-- Row Ax of the table. -/
def tableRowA : List TableRow :=
  [⟨1, 4, 4, conjunctive⟩, ⟨1, 4, 4, conjunctive⟩, ⟨1, 4, 4, conjunctive⟩, ⟨1, 4, 4, conjunctive⟩,
   ⟨1, 4, 4, conjunctive⟩, ⟨1, 4, 4, conjunctive⟩, ⟨1, 8, 8, conjunctive⟩, ⟨1, 4, 4, conjunctive⟩,
   ⟨1, 4, 4, logical⟩, ⟨1, 4, 4, logical⟩, ⟨1, 4, 4, logical⟩, ⟨1, 4, 4, logical⟩, ⟨1, 4, 4, logical⟩,
   ⟨1, 4, 4, logical⟩, ⟨1, 8, 8, logical⟩, ⟨1, 4, 4, logical⟩]

/-- Row Bx of the table. -/
def tableRowB : List TableRow :=
  [⟨1, 4, 4, logical⟩, ⟨1, 4, 4, logical⟩, ⟨1, 4, 4, logical⟩, ⟨1, 4, 4, logical⟩, ⟨1, 4, 4, logical⟩,
   ⟨1, 4, 4, logical⟩, ⟨1, 8, 8, logical⟩, ⟨1, 4, 4, logical⟩, ⟨1, 4, 4, subtractive⟩, ⟨1, 4, 4, subtractive⟩,
   ⟨1, 4, 4, subtractive⟩, ⟨1, 4, 4, subtractive⟩, ⟨1, 4, 4, subtractive⟩, ⟨1, 4, 4, subtractive⟩,
   ⟨1, 8, 8, subtractive⟩, ⟨1, 4, 4, subtractive⟩]

/-- Row Cx of the table. -/
def tableRowC : List TableRow :=
  [⟨1, 20, 8, keepAll⟩, ⟨1, 12, 12, keepAll⟩, ⟨3, 16, 12, keepAll⟩, ⟨3, 16, 16, keepAll⟩, ⟨3, 24, 12, keepAll⟩,
   ⟨1, 16, 16, keepAll⟩, ⟨2, 8, 8, additive⟩, ⟨1, 16, 16, keepAll⟩, ⟨1, 20, 8, keepAll⟩, ⟨1, 16, 16, keepAll⟩,
   ⟨3, 16, 12, keepAll⟩, ⟨2, 4, 4, keepAll⟩, ⟨3, 24, 12, keepAll⟩, ⟨3, 24, 24, keepAll⟩, ⟨2, 8, 8, additive⟩,
   ⟨1, 16, 16, keepAll⟩]

/-- Row Dx of the table. -/
def tableRowD : List TableRow :=
  [⟨1, 20, 8, keepAll⟩, ⟨1, 12, 12, keepAll⟩, ⟨3, 16, 12, keepAll⟩, ⟨1, 4, 4, keepAll⟩, ⟨3, 24, 12, keepAll⟩,
   ⟨1, 16, 16, keepAll⟩, ⟨2, 8, 8, subtractive⟩, ⟨1, 16, 16, keepAll⟩, ⟨1, 20, 8, keepAll⟩, ⟨1, 16, 16, keepAll⟩,
   ⟨3, 16, 12, keepAll⟩, ⟨1, 4, 4, keepAll⟩, ⟨3, 24, 12, keepAll⟩, ⟨1, 4, 4, keepAll⟩, ⟨2, 8, 8, subtractive⟩,
   ⟨1, 16, 16, keepAll⟩]

/-- Row Ex of the table. -/
def tableRowE : List TableRow :=
  [⟨2, 12, 12, keepAll⟩, ⟨1, 12, 12, keepAll⟩, ⟨1, 8, 8, keepAll⟩, ⟨1, 4, 4, keepAll⟩, ⟨1, 4, 4, keepAll⟩,
   ⟨1, 16, 16, keepAll⟩, ⟨2, 8, 8, conjunctive⟩, ⟨1, 16, 16, keepAll⟩, ⟨2, 16, 16, addedSigned⟩,
   ⟨1, 4, 4, keepAll⟩, ⟨3, 16, 16, keepAll⟩, ⟨1, 4, 4, keepAll⟩, ⟨1, 4, 4, keepAll⟩, ⟨1, 4, 4, keepAll⟩,
   ⟨2, 8, 8, logical⟩, ⟨1, 16, 16, keepAll⟩]

/-- Row Fx of the table. -/
def tableRowF : List TableRow :=
  [⟨2, 12, 12, keepAll⟩, ⟨1, 12, 12, popped⟩, ⟨1, 8, 8, keepAll⟩, ⟨1, 4, 4, keepAll⟩, ⟨1, 4, 4, keepAll⟩,
   ⟨1, 16, 16, keepAll⟩, ⟨2, 8, 8, logical⟩, ⟨1, 16, 16, keepAll⟩, ⟨2, 12, 12, addedSigned⟩, ⟨1, 8, 8, keepAll⟩,
   ⟨3, 16, 16, keepAll⟩, ⟨1, 4, 4, keepAll⟩, ⟨1, 4, 4, keepAll⟩, ⟨1, 4, 4, keepAll⟩, ⟨2, 8, 8, subtractive⟩,
   ⟨1, 16, 16, keepAll⟩]

/-- The primary table (rule R340). -/
def primaryTable : List (List TableRow) :=
  [tableRow0, tableRow1, tableRow2, tableRow3, tableRow4, tableRow5, tableRow6, tableRow7, tableRow8, tableRow9,
   tableRowA, tableRowB, tableRowC, tableRowD, tableRowE, tableRowF]

/-- The secondary table, by the fields of its byte (rules R322, R341): two bytes long, 8 ticks on a register; on
[HL] 16 ticks, and 12 for BIT. -/
def secondaryTable (op2 : Byte) : TableRow :=
  let atHl := decide (op2.toNat % 8 = 6)
  match op2.toNat / 64 with
  | 0 => ⟨2, if atHl then 16 else 8, if atHl then 16 else 8, if op2.toNat / 8 = 6 then logical else shifted⟩
  | 1 => ⟨2, if atHl then 12 else 8, if atHl then 12 else 8, bitTested⟩
  | _ => ⟨2, if atHl then 16 else 8, if atHl then 16 else 8, keepAll⟩

/-- The row of an instruction's first two bytes. -/
def tableRow (b0 b1 : Byte) : TableRow :=
  if b0 = 0xCB#8 then secondaryTable b1
  else ((primaryTable.getD (b0.toNat / 16) []).getD (b0.toNat % 16) ⟨1, 4, 4, keepAll⟩)

/-- The condition of field y of a conditional opcode: NZ, Z, NC, C by its two low bits (rules R321, R333, R334). -/
def condition (b0 : Byte) (f : Flags) : Bool :=
  match b0.toNat / 8 % 4 with
  | 0 => !f.z
  | 1 => f.z
  | 2 => !f.c
  | _ => f.c

/-- The ticks a row gives an instruction, its fetch included. -/
def rowTicks (b0 b1 : Byte) (f : Flags) : Nat :=
  if condition b0 f then (tableRow b0 b1).ticks else (tableRow b0 b1).notTaken

/-! ### Where an instruction stores -/

/-- The addresses an instruction stores to, as the spec computes them (rules R222, R230 to R232, R519). HALT, whose
dispatch pushes, has its own statements. -/
def storedAt (i : Instr) (s : State) : List Word :=
  let stack : List Word := [s.regs.sp - 1, s.regs.sp - 2]
  match i with
  | .ldAtBcA => [s.r16 .bc]
  | .ldAtDeA => [s.r16 .de]
  | .ldAtHlIncA | .ldAtHlDecA | .incAtHl | .decAtHl | .ldAtHlN8 _ | .ldAtHlB | .ldAtHlC | .ldAtHlD | .ldAtHlE
  | .ldAtHlH | .ldAtHlL | .ldAtHlA => [s.r16 .hl]
  | .ldhAtN8A n8 => [0xFF00#16 + n8.zeroExtend 16]
  | .ldhAtCA => [0xFF00#16 + s.regs.c.zeroExtend 16]
  | .ldAtN16A n16 => [n16]
  | .ldAtN16Sp n16 => [n16, n16 + 1]
  | .pushBc | .pushDe | .pushHl | .pushAf | .callN16 _ | .rst00 | .rst08 | .rst10 | .rst18 | .rst20 | .rst28 | .rst30
  | .rst38 => stack
  | .callNzN16 _ => if s.flags.z then [] else stack
  | .callZN16 _ => if s.flags.z then stack else []
  | .callNcN16 _ => if s.flags.c then [] else stack
  | .callCN16 _ => if s.flags.c then stack else []
  | i =>
    match encode i with
    | [0xCB, op2] => if op2.toNat % 8 = 6 ∧ op2.toNat / 64 ≠ 1 then [s.r16 .hl] else []
    | _ => []

/-! ### The fetch in quiet time -/

/-- What the address after the opcode is ahead of pc: the halt bug reads the opcode byte twice (rules R311, R911). -/
def opcodeAdvance (s : State) : Word := if s.haltBug then 0 else 1

/-- The addresses the fetch reads in order, as many of them as the instruction has bytes (rules R310, R311). -/
def streamAddrs (s : State) : List Word :=
  [s.regs.pc, s.regs.pc + opcodeAdvance s, s.regs.pc + opcodeAdvance s + 1]

/-- The instruction stream: the bytes the bus shows there. -/
def stream (s : State) : List Byte := (streamAddrs s).map s.peek

/-- The reads of an n-byte fetch as the environment sees them, newest first: 4 ticks each, the byte at each address
(rules R210, R310). -/
def fetchReads (s : State) (n : Nat) : List Observation :=
  ((List.range n).map (fun k =>
    let x := (streamAddrs s).getD k 0
    .read (s.currentTick + 4 * (k + 1)) x (s.peek x))).reverse

/-- The state after the fetch of an n-byte instruction in quiet time (rules R310, R311). -/
def fetched (s : State) (n : Nat) : State :=
  { s with
    regs := { s.regs with pc := s.regs.pc + opcodeAdvance s + BitVec.ofNat 16 (n - 1) },
    haltBug := false, pendingTicks := 0, fetchAddr := s.regs.pc,
    currentTick := s.currentTick + 4 * n, ticksThisCall := 4 * n,
    env := { s.env with log := fetchReads s n ++ s.env.log } }

/-! ### Fatal conditions -/

/-- Of the states after each bus access of an instruction, in order, the first broken one is exec's answer: nothing
of the instruction runs after it (rule R1001). -/
def EndsAtFirstBroken (i : Instr) (s : State) (accesses : List State) : Prop :=
  ∀ t, accesses.find? (fun u => u.broken) = some t → exec i s = .next t

/-! ### Dispatch in quiet time -/

/-- The byte that a push of v at address x leaves in IE and in IF (rule R241). -/
def ieAfter (s : State) (x : Word) (v : Byte) : Byte := if x = 0xFFFF#16 then v else s.ie
def ifAfter (s : State) (x : Word) (v : Byte) : Byte := if x = 0xFF0F#16 then v ||| 0xE0#8 else s.ifr

/-- The least source requested and enabled in two masks (rule R1020). -/
def leastSource (e f : Byte) : Option Nat := (List.range 5).find? (fun k => e.getLsbD k && f.getLsbD k)

/-- The remaining delay of an affected event after a speed switch, from the speed mode before it (rule R1080). -/
def switchedDelay (doubleSpeed : Bool) (r : Nat) : Nat := if doubleSpeed then 2 * r else r / 2

end Sys2Proof.Forms

open Sys2Proof Sys2Proof.Machine Sys2Proof.Forms

/-- O1. In every state that is not broken, where the bus answers the one, two or three fetched bytes without a fatal
condition and they decode to a well-formed instruction i, step is what execute() does after the body
(completeStep, stated in CompleteStepChargesAndChecks) applied to exec i on the fetched state. The fetch starts
with ticksThisCall and pendingTicks at 0 and fetchAddr at pc; the opcode fetch leaves pc unchanged and ends
haltBug where haltBug is set, and advances pc otherwise; every further byte is a bus read at pc that advances pc
modulo 65536. [R310, R311, R220, R316] -/
def Obligations.StepRunsDecodedInstruction : Prop :=
  ∀ (s : State) (i : Instr), s.broken = false → i.wellFormed = true →
    let start : State := { s with ticksThisCall := 0, pendingTicks := 0, fetchAddr := s.regs.pc }
    let r0 := start.memRead s.regs.pc
    let t0 : State :=
      if s.haltBug then { r0.2 with haltBug := false } else { r0.2 with regs := { s.regs with pc := s.regs.pc + 1 } }
    let r1 := t0.memRead t0.regs.pc
    let t1 : State := { r1.2 with regs := { s.regs with pc := t0.regs.pc + 1 } }
    let r2 := t1.memRead t1.regs.pc
    let t2 : State := { r2.2 with regs := { s.regs with pc := t0.regs.pc + 2 } }
    r0.2.broken = false →
      (decode [r0.1] = .ok (i, []) → step s = completeStep (exec i t0)) ∧
      (r1.2.broken = false →
        (decode [r0.1, r1.1] = .ok (i, []) → step s = completeStep (exec i t1)) ∧
        (r2.2.broken = false → decode [r0.1, r1.1, r2.1] = .ok (i, []) → step s = completeStep (exec i t2)))

/-- O2. In a state that is quiet for 12 ticks, let the three bytes of the instruction stream be those the bus shows at
pc and the two addresses after it; under the halt bug the opcode byte is read a second time as the byte after it,
and pc ends one lower. If they decode to a well-formed instruction i of n bytes, step is completeStep of exec i on
the state s itself with exactly these changes: pc advanced by n (n - 1 under the halt bug), haltBug cleared, 4n
ticks charged to currentTick and counted from 0 in ticksThisCall, pendingTicks 0, fetchAddr the old pc, and in
front of the environment's log the n reads, newest first: the k-th at currentTick + 4k, of the k-th stream
address, with the byte shown there. 'Quiet' is the model's own premise about the environment (log entry 3), the
log the model's own record (log entry 7). [30_encoding.md R310, 30_encoding.md R311, 45_system.md R911,
20_memory.md R210, 20_memory.md R262] -/
def Obligations.QuietStepRunsBytesAtPc : Prop :=
  ∀ (s : State) (i : Instr) (rest : List Byte), s.Quiet 12 → i.wellFormed = true →
    decode (stream s) = .ok (i, rest) → step s = completeStep (exec i (fetched s (encode i).length))

/-- O3. What execute() does after an instruction body that left the state s: a broken state is the answer itself, with
no further tick and no check; with no pending ticks no tick is made; otherwise all of them are charged in one tick
and pendingTicks becomes 0, and a fatal condition in that tick ends the step. Then, once: if IME is set and IF &
IE & 0x1F is not 0, the answer is that of dispatchInterrupt(false), and the state itself otherwise. [R312, R313,
R123, R124] -/
def Obligations.CompleteStepChargesAndChecks : Prop :=
  ∀ s : State,
    (s.broken = true → completeStep (.next s) = .next s) ∧
    (∀ t : State,
      (s.pendingTicks = 0 ∧ t = s ∨
        0 < s.pendingTicks ∧ (s.tick s.pendingTicks).broken = false ∧
          t = { s.tick s.pendingTicks with pendingTicks := 0 }) →
      s.broken = false →
      (t.ime = true ∧ t.ifr &&& t.ie &&& 0x1F#8 ≠ 0x00#8 → completeStep (.next s) = dispatchInterrupt false t) ∧
      (¬ (t.ime = true ∧ t.ifr &&& t.ie &&& 0x1F#8 ≠ 0x00#8) → completeStep (.next s) = .next t)) ∧
    (s.broken = false → 0 < s.pendingTicks → (s.tick s.pendingTicks).broken = true →
      completeStep (.next s) = .next (s.tick s.pendingTicks))

/-- O4. Once the broken flag is set, step answers the fault that names the recorded reason, whatever else the state
holds; no next state exists. [R315] -/
def Obligations.BrokenStateHasNoStep : Prop :=
  ∀ s : State, s.broken = true → step s = .fault (.broken s.brokenReason)

/-- O5. A word of each family, written out bit by bit from the encoding its rule gives, decodes to the instruction it
stands for, with the operand bytes placed low byte first; nothing of the stream after it is consumed. [R321, R322,
R330, R342] -/
def Obligations.DecodedWordsOfTheRules : Prop :=
  decode [0b10000111] = .ok (.addAA, []) ∧
  decode [0b11001101, 0x00, 0x02, 0xFF] = .ok (.callN16 0x0200, [0xFF]) ∧
  decode [0b00111110, 0x24] = .ok (.ldAN8 0x24, []) ∧
  decode [0b01000111, 0x00] = .ok (.ldBA, [0x00]) ∧
  decode [0b01110110] = .ok (.halt, []) ∧
  decode [0b00110001, 0xFE, 0xFF] = .ok (.ldSpN16 0xFFFE, []) ∧
  decode [0b11110101] = .ok (.pushAf, []) ∧
  decode [0b00101001] = .ok (.addHlHl, []) ∧
  decode [0b00111000, 0xFB] = .ok (.jrCE8 0xFB, []) ∧
  decode [0b11001011, 0b00110111] = .ok (.swapA, []) ∧
  decode [0b11001011, 0b01111100] = .ok (.bit7H, []) ∧
  decode [0b11001011, 0b10010110] = .ok (.res2AtHl, []) ∧
  decode [0b11001011, 0b11001011] = .ok (.set1E, []) ∧
  decode [0b11010011] = .ok (.illegalD3, [])

/-- O6. For every well-formed instruction, with every value of its operand, and any bytes after it: decoding its
encoding followed by those bytes answers the instruction and leaves exactly those bytes. Every instruction is 1, 2
or 3 bytes long, and its length is the one known from its first byte alone. [R316, R320] -/
def Obligations.DecodeInvertsEncode : Prop :=
  ∀ (i : Instr) (rest : List Byte), i.wellFormed = true →
    decode (encode i ++ rest) = .ok (i, rest) ∧
    ∃ b0 bs, encode i = b0 :: bs ∧ bs.length < 3 ∧ instrLength b0 = bs.length + 1

/-- O7. Decoding is total on complete streams: three bytes always decode, to a well-formed instruction whose encoding
is exactly the bytes consumed. So no encoding has two meanings and none is dropped. [30_encoding.md R314,
30_encoding.md R316] -/
def Obligations.EncodeInvertsDecode : Prop :=
  ∀ b0 b1 b2 : Byte, ∃ i rest,
    decode [b0, b1, b2] = .ok (i, rest) ∧ i.wellFormed = true ∧ encode i ++ rest = [b0, b1, b2]

/-- O8. The model's own placing operation withFetchWord (log entry 9), in a quiet state with memory in canonical form
and no halt bug whose pc, pc + 1 and pc + 2 are environment addresses: if the table word decodes to i, the next
step is completeStep of exec i on a state with s's registers but for pc, s's flags, IME, IE, IF, events and clock
plus the fetch's 4 ticks a byte. The model's choice: rests on log entry 9. [30_encoding.md R310,
70_reset_and_hazards.md R1200] -/
def Obligations.PlacedWordRunsNext : Prop :=
  ∀ (s : State) (nbits w : Nat) (i : Instr), s.Quiet 12 → Memory.wf s.env.mem → s.haltBug = false →
    coreOwned s.regs.pc = false → coreOwned (s.regs.pc + 1) = false → coreOwned (s.regs.pc + 2) = false →
    decodeTableWord nbits w = some i →
    ∃ t, step (s.withFetchWord nbits w) = completeStep (exec i t) ∧
      t.regs = { s.regs with pc := s.regs.pc + BitVec.ofNat 16 (encode i).length } ∧
      t.flags = s.flags ∧ t.ime = s.ime ∧ t.ie = s.ie ∧ t.ifr = s.ifr ∧ t.events = s.events ∧ t.broken = false ∧
      t.currentTick = s.currentTick + 4 * (encode i).length ∧
      ∀ x : Word, x ≠ s.regs.pc → x ≠ s.regs.pc + 1 → x ≠ s.regs.pc + 2 → t.peek x = s.peek x

/-- O9. From every state with the invariant, not only states reached from reset, every next state of step has it: IF
bits 5..7 are 1; the environment's memory is in canonical form; at most 64 events are pending, with distinct
rising sequence numbers below nextSeq; the halt-skip cap is positive; the broken flag stands exactly with a
reason; and, unless broken, no pending event is overdue, pendingTicks is 0 and cpuMode is Running. [10_state.md
R121, 10_state.md R130, 10_state.md R132, 10_state.md R143, 10_state.md R145] -/
def Obligations.EveryStepKeepsTheInvariant : Prop :=
  ∀ s t : State, s.Inv → step s = .next t → t.Inv

/-- O10. The reset state has the invariant, and so has the state after launching with any registers, flags, positive
halt-skip cap, environment whose memory is in canonical form (log entry 2) and list of at most 64 initial events.
[70_reset_and_hazards.md R1200, 10_state.md R150, 60_exceptions.md R1087] -/
def Obligations.ResetHasTheInvariant : Prop :=
  State.reset.Inv ∧
  ∀ (r : Registers) (f : Flags) (p : Config.Params) (env : Environment) (evs : List (EventId × Nat × Nat)),
    0 < p.haltSkipCap → Memory.wf env.mem → evs.length ≤ 64 → (State.launch r f p env evs).Inv

/-- O11. Reset leaves IE = 0x00, IF = 0xE0, IME false, no pending ticks, no halt bug, cpuMode Running, not broken,
tick 0, no event, sequence number 0 and normal speed; launch takes its registers, flags, parameters and
environment as given (memory contents, speedSwitchArmed and coming moves among it; only the log starts empty) and
adds the initial events in order, each due delta ticks ahead. State.reset is such a launch, with no event. Its
INIT_REGS are the spec's named profile 'DMG post-boot' (the model's choice, log entry 1) and its environment has
empty memory, no move lined up and speedSwitchArmed false (the model's choices, log entries 2, 3, 4, 7 and 17).
[10_state.md R150, 70_reset_and_hazards.md R1200, 60_exceptions.md R1087, 92_eei_decisions.md D9,
92_eei_decisions.md D10] -/
def Obligations.ResetValues : Prop :=
  (∀ (r : Registers) (f : Flags) (p : Config.Params) (env : Environment) (evs : List (EventId × Nat × Nat)),
    evs.length ≤ 64 →
    let s := State.launch r f p env evs
    s.regs = r ∧ s.flags = f ∧ s.ie = 0x00#8 ∧ s.ifr = 0xE0#8 ∧ s.ime = false ∧ s.pendingTicks = 0 ∧
      s.haltBug = false ∧ s.cpuMode = .running ∧ s.broken = false ∧ s.brokenReason = none ∧ s.currentTick = 0 ∧
      s.nextSeq = evs.length ∧ s.doubleSpeed = false ∧ s.env = { env with log := [] } ∧ s.params = p ∧
      s.events.map (fun e => (e.id, e.dueTick, e.callback)) = evs.map (fun e => (e.1, e.2.1, .env e.2.2))) ∧
  State.reset = State.launch
    { a := 0x01#8, b := 0x00#8, c := 0x13#8, d := 0x00#8, e := 0xD8#8, h := 0x01#8, l := 0x4D#8, sp := 0xFFFE#16,
      pc := 0x0100#16 }
    { z := true, n := false, h := true, c := true } Config.defaultParams
    { mem := [], reads := [], writes := [], callbacks := [], ties := [], tieDraws := 0, speedSwitchArmed := false,
      log := [] } []

/-- O12. For all 16 combinations of the flags, setF(getF()) restores them and bits 3..0 of getF() are 0; getF() has Z,
N, H, C in bits 7 to 4; and for every byte, getF() after setF(v) is v with bits 3..0 cleared. [R111, R113] -/
def Obligations.FlagByteRoundTrip : Prop :=
  (∀ f : Flags, Flags.unpack f.pack = f ∧ f.pack &&& 0x0F#8 = 0x00#8 ∧ f.pack.toNat = flagByte f) ∧
  ∀ v : Byte, (Flags.unpack v).pack = v &&& 0xF0#8

/-- O13. Writing one 8-bit register changes that register alone; writing a pair puts the high byte in its first
register and the low byte in its second and changes nothing else; reading a pair gives its first register times
256 plus its second; sp and pc are never touched by an 8-bit write. There is no hardwired register: every register
holds any value written. [R101] -/
def Obligations.RegisterPairsAreViews : Prop :=
  ∀ (g : Registers) (r r' : Reg8) (v : Byte) (w : Word),
    (g.set8 v r).get8 r = v ∧ (r ≠ r' → (g.set8 v r).get8 r' = g.get8 r') ∧
    (g.set8 v r).sp = g.sp ∧ (g.set8 v r).pc = g.pc ∧
    (g.get16 .bc).toNat = 256 * g.b.toNat + g.c.toNat ∧ (g.get16 .de).toNat = 256 * g.d.toNat + g.e.toNat ∧
    (g.get16 .hl).toNat = 256 * g.h.toNat + g.l.toNat ∧ g.get16 .sp = g.sp ∧
    g.set16 w .bc = { g with b := w.extractLsb' 8 8, c := w.extractLsb' 0 8 } ∧
    g.set16 w .de = { g with d := w.extractLsb' 8 8, e := w.extractLsb' 0 8 } ∧
    g.set16 w .hl = { g with h := w.extractLsb' 8 8, l := w.extractLsb' 0 8 } ∧
    g.set16 w .sp = { g with sp := w } ∧ ∀ p : Reg16, (g.set16 w p).get16 p = w

/-- O14. For every form of ADD A and ADC A (register, [HL], n8), if reading the source raises no fatal condition, exec
answers the state after that read with a = (a + v + cin) mod 256 and the flags of add8, and no other change; cin
is the old carry for ADC and 0 for ADD. Source and destination may be the same register. [R400, R410, R411, R412,
R413, R414, R415] -/
def Obligations.AddAndAdcResults : Prop :=
  ∀ (n8 : Byte) (s : State),
    (∀ f ∈ addForms n8, (f.2.read s).2.broken = false →
      exec f.1 s = .next { (f.2.read s).2 with
        regs := { s.regs with a := BitVec.ofNat 8 ((s.regs.a.toNat + (f.2.read s).1.toNat) % 256) },
        flags := sumFlags s.regs.a.toNat (f.2.read s).1.toNat 0 }) ∧
    (∀ f ∈ adcForms n8, (f.2.read s).2.broken = false →
      exec f.1 s = .next { (f.2.read s).2 with
        regs := { s.regs with
          a := BitVec.ofNat 8 ((s.regs.a.toNat + (f.2.read s).1.toNat + s.flags.c.toNat) % 256) },
        flags := sumFlags s.regs.a.toNat (f.2.read s).1.toNat s.flags.c.toNat })

/-- O15. For every form of SUB A, SBC A and CP A, if reading the source raises no fatal condition, exec answers the
state after that read with a = (a - v - cin) mod 256 (for CP a is not written) and the flags of sub8, and no other
change; cin is the old carry for SBC and 0 otherwise. [R401, R416, R417, R418, R419, R420, R421, R431, R432, R433] -/
def Obligations.SubSbcAndCpResults : Prop :=
  ∀ (n8 : Byte) (s : State),
    (∀ f ∈ subForms n8, (f.2.read s).2.broken = false →
      exec f.1 s = .next { (f.2.read s).2 with
        regs := { s.regs with
          a := BitVec.ofNat 8 (((s.regs.a.toNat : Int) - (f.2.read s).1.toNat) % 256).toNat },
        flags := differenceFlags s.regs.a.toNat (f.2.read s).1.toNat 0 }) ∧
    (∀ f ∈ sbcForms n8, (f.2.read s).2.broken = false →
      exec f.1 s = .next { (f.2.read s).2 with
        regs := { s.regs with
          a := BitVec.ofNat 8 (((s.regs.a.toNat : Int) - (f.2.read s).1.toNat - s.flags.c.toNat) % 256).toNat },
        flags := differenceFlags s.regs.a.toNat (f.2.read s).1.toNat s.flags.c.toNat }) ∧
    (∀ f ∈ cpForms n8, (f.2.read s).2.broken = false →
      exec f.1 s = .next { (f.2.read s).2 with
        flags := differenceFlags s.regs.a.toNat (f.2.read s).1.toNat 0 })

/-- O16. For every form of AND A, XOR A and OR A, if reading the source raises no fatal condition, exec answers the
state after that read with a the bitwise result, Z by the result, N and C cleared, H set by AND and cleared by the
others, and no other change. [R422, R423, R424, R425, R426, R427, R428, R429, R430] -/
def Obligations.AndXorOrResults : Prop :=
  ∀ (n8 : Byte) (s : State),
    (∀ f ∈ andForms n8, (f.2.read s).2.broken = false →
      exec f.1 s = .next { (f.2.read s).2 with
        regs := { s.regs with a := s.regs.a &&& (f.2.read s).1 },
        flags := logicFlags (s.regs.a &&& (f.2.read s).1) true }) ∧
    (∀ f ∈ xorForms n8, (f.2.read s).2.broken = false →
      exec f.1 s = .next { (f.2.read s).2 with
        regs := { s.regs with a := s.regs.a ^^^ (f.2.read s).1 },
        flags := logicFlags (s.regs.a ^^^ (f.2.read s).1) false }) ∧
    (∀ f ∈ orForms n8, (f.2.read s).2.broken = false →
      exec f.1 s = .next { (f.2.read s).2 with
        regs := { s.regs with a := s.regs.a ||| (f.2.read s).1 },
        flags := logicFlags (s.regs.a ||| (f.2.read s).1) false })

/-- O17. INC r and DEC r answer, in every state, that state with the register one higher or lower modulo 256, Z by the
result, N cleared or set, H where the low nibble wraps, C unchanged, and no other change. [R440, R442] -/
def Obligations.IncDecRegisterResults : Prop :=
  ∀ s : State,
    (∀ f ∈ incForms, exec f.1 s = .next { s with
      regs := s.regs.set8 (BitVec.ofNat 8 ((s.regs.get8 f.2).toNat + 1)) f.2,
      flags := { z := decide (((s.regs.get8 f.2).toNat + 1) % 256 = 0), n := false,
                 h := decide ((s.regs.get8 f.2).toNat % 16 = 15), c := s.flags.c } }) ∧
    (∀ f ∈ decForms, exec f.1 s = .next { s with
      regs := s.regs.set8 (BitVec.ofNat 8 ((s.regs.get8 f.2).toNat + 255)) f.2,
      flags := { z := decide ((s.regs.get8 f.2).toNat = 1), n := true,
                 h := decide ((s.regs.get8 f.2).toNat % 16 = 0), c := s.flags.c } })

/-- O18. INC [HL] and DEC [HL] read the byte at hl and write it one higher or lower modulo 256 at the same hl, two bus
accesses; where neither raises a fatal condition, exec answers the state after the write with the flags of INC r
and DEC r, C unchanged, and every register unchanged. [R441, R443, R261] -/
def Obligations.IncDecMemoryResults : Prop :=
  ∀ (s : State) (v : Byte) (t : State), s.memRead (s.r16 .hl) = (v, t) → t.broken = false →
    let up : Byte := BitVec.ofNat 8 (v.toNat + 1)
    let down : Byte := BitVec.ofNat 8 (v.toNat + 255)
    ((t.memWrite (s.r16 .hl) up).broken = false →
      exec .incAtHl s = .next { t.memWrite (s.r16 .hl) up with
        regs := s.regs,
        flags := { z := decide (v.toNat = 255), n := false, h := decide (v.toNat % 16 = 15), c := s.flags.c } }) ∧
    ((t.memWrite (s.r16 .hl) down).broken = false →
      exec .decAtHl s = .next { t.memWrite (s.r16 .hl) down with
        regs := s.regs,
        flags := { z := decide (v.toNat = 1), n := true, h := decide (v.toNat % 16 = 0), c := s.flags.c } })

/-- O19. DAA answers the state with a corrected by 0x60 and 0x06 as the rule's pseudocode says: after an addition by
the old a, H and C, with C set where the 0x60 correction applies; after a subtraction by H and C alone. Z by the
result, H cleared, N unchanged. CPL complements a and sets N and H; SCF sets C and clears N and H; CCF inverts C
and clears N and H. Z is unchanged by these three, C by CPL, and nothing else changes. [R450, R451, R452, R453] -/
def Obligations.DaaCplScfCcfResults : Prop :=
  ∀ s : State,
    let x := s.regs.a.toNat
    let high := s.flags.c ∨ (s.flags.n = false ∧ x > 0x99)
    let low := s.flags.h ∨ (s.flags.n = false ∧ x % 16 > 9)
    let adj := (if high then 0x60 else 0) + (if low then 0x06 else 0)
    let res := if s.flags.n then (x + 256 - adj) % 256 else (x + adj) % 256
    exec .daa s = .next { s with
      regs := { s.regs with a := BitVec.ofNat 8 res },
      flags := { z := decide (res = 0), n := s.flags.n, h := false, c := decide high } } ∧
    exec .cpl s = .next { s with
      regs := { s.regs with a := BitVec.ofNat 8 (255 - s.regs.a.toNat) },
      flags := { s.flags with n := true, h := true } } ∧
    exec .scf s = .next { s with flags := { s.flags with n := false, h := false, c := true } } ∧
    exec .ccf s = .next { s with flags := { s.flags with n := false, h := false, c := !s.flags.c } }

/-- O20. Every LD r,r' and LD r,n8 answers, in every state, that state with the destination register written and
nothing else changed; LD r,r of one register changes nothing. [R500, R501] -/
def Obligations.RegisterLoadResults : Prop :=
  ∀ (n8 : Byte) (s : State),
    (∀ f ∈ copyForms, exec f.1 s = .next { s with regs := s.regs.set8 (s.regs.get8 f.2.2) f.2.1 }) ∧
    (∀ f ∈ copyForms, f.2.1 = f.2.2 → exec f.1 s = .next s) ∧
    (∀ f ∈ immForms n8, exec f.1 s = .next { s with regs := s.regs.set8 n8 f.2 })

/-- O21. Every load of a register from memory (LD r,[HL], LD A,[BC], LD A,[DE], LD A,[n16], LDH A,[n8], LDH A,[C])
makes one bus read at the address its mode gives from the registers before the read; where that raises no fatal
condition, exec answers the state after the read with the destination register written and no other register and
no flag changed. [R502, R505, R506, R509, R511, R513, R519] -/
def Obligations.MemoryLoadResults : Prop :=
  ∀ (n8 : Byte) (n16 : Word) (s : State), ∀ f ∈ loadForms n8 n16 s, (s.memRead f.2.2).2.broken = false →
    exec f.1 s = .next { (s.memRead f.2.2).2 with
      regs := s.regs.set8 (s.memRead f.2.2).1 f.2.1, flags := s.flags }

/-- O22. Every one-byte store (LD [HL],r, LD [HL],n8, LD [BC],A, LD [DE],A, LD [n16],A, LDH [n8],A, LDH [C],A)
answers, in every state, the state after one bus write of the source byte at the address its mode gives; registers
and flags are unchanged. [R503, R504, R507, R508, R510, R512, R514, R519] -/
def Obligations.MemoryStoreResults : Prop :=
  ∀ (n8 : Byte) (n16 : Word) (s : State), ∀ f ∈ storeForms n8 n16 s,
    exec f.1 s = .next (s.memWrite f.2.1 f.2.2) ∧
    (s.memWrite f.2.1 f.2.2).regs = s.regs ∧ (s.memWrite f.2.1 f.2.2).flags = s.flags

/-- O23. LD A,[HL+] and LD A,[HL-] read the byte at the old hl, and LD [HL+],A and LD [HL-],A write a there; where the
access raises no fatal condition, exec answers the state after it with a loaded (loads only) and hl stepped by one
modulo 65536, and no other register and no flag changed. [R515, R516, R517, R518] -/
def Obligations.StepLoadAndStoreResults : Prop :=
  ∀ s : State,
    let x := s.r16 .hl
    let r := s.memRead x
    let w := s.memWrite x s.regs.a
    (r.2.broken = false →
      exec .ldAAtHlInc s = .next { r.2 with
        regs := { s.regs with a := r.1, h := (x + 1).hi, l := (x + 1).lo }, flags := s.flags } ∧
      exec .ldAAtHlDec s = .next { r.2 with
        regs := { s.regs with a := r.1, h := (x - 1).hi, l := (x - 1).lo }, flags := s.flags }) ∧
    (w.broken = false →
      exec .ldAtHlIncA s = .next { w with
        regs := { s.regs with h := (x + 1).hi, l := (x + 1).lo }, flags := s.flags } ∧
      exec .ldAtHlDecA s = .next { w with
        regs := { s.regs with h := (x - 1).hi, l := (x - 1).lo }, flags := s.flags })

/-- O24. LD rr,n16 writes the pair or sp; LD SP,HL copies hl to sp and accrues one internal cycle; LD [n16],SP writes
the low byte of sp at n16 and then, where that raised no fatal condition, its high byte at n16 + 1 modulo 65536.
Nothing else changes. [R222, R530, R531, R532] -/
def Obligations.WordLoadResults : Prop :=
  ∀ (n16 : Word) (s : State),
    (∀ f ∈ pairImmForms n16, exec f.1 s = .next { s with regs := s.regs.set16 n16 f.2 }) ∧
    exec .ldSpHl s = .next { s with
      regs := { s.regs with sp := Word.ofBytes s.regs.h s.regs.l }, pendingTicks := s.pendingTicks + 4 } ∧
    ((s.memWrite n16 s.regs.sp.lo).broken = false →
      exec (.ldAtN16Sp n16) s = .next ((s.memWrite n16 s.regs.sp.lo).memWrite (n16 + 1) s.regs.sp.hi))

/-- O25. PUSH rr, where its first bus write raises no fatal condition, answers the state after the two writes of rule
R232 from the state with one internal cycle accrued: the high byte of the pair at sp - 1, then the low byte at sp
- 2, sp decremented before each; the low byte of af is the flag byte. No other register and no flag changes.
[R230, R232, R540] -/
def Obligations.PushResults : Prop :=
  ∀ s : State, ∀ f ∈ pushForms,
    let u : State := { s with pendingTicks := s.pendingTicks + 4 }
    (pushFirst u (pairWord s f.2)).broken = false →
      exec f.1 s = .next (pushBoth u (pairWord s f.2)) ∧
      (pushBoth u (pairWord s f.2)).regs = { s.regs with sp := s.regs.sp - 2 } ∧
      (pushBoth u (pairWord s f.2)).flags = s.flags

/-- O26. POP rr, where its two bus reads raise no fatal condition, answers the state after them with sp two higher and
the pair written from the two bytes; POP AF writes a and all four flags, from bits 7..4 of the low byte. The other
pairs leave the flags unchanged, and no other register changes. [R231, R233, R541] -/
def Obligations.PopResults : Prop :=
  ∀ s : State, ∀ f ∈ popForms, (popFirst s).2.broken = false → (popSecond s).2.broken = false →
    exec f.1 s = .next (writePair (popDone s) (popSecond s).1 (popFirst s).1 f.2) ∧
    (popDone s).regs = { s.regs with sp := s.regs.sp + 2 } ∧ (popDone s).flags = s.flags

/-- O27. INC rr and DEC rr step the pair or sp modulo 65536 with no flag changed and one internal cycle accrued. ADD
HL,rr adds modulo 65536 with H from bit 11, C from bit 15, N cleared, Z unchanged and one internal cycle. ADD
SP,e8 and LD HL,SP+e8 add the signed displacement modulo 65536, clear Z and N, take H and C from the unsigned sum
of the low byte of sp and the raw byte, and accrue two internal cycles and one; LD HL,SP+e8 leaves sp. Nothing
else changes. [R600, R601, R602, R603, R604] -/
def Obligations.WordArithmeticResults : Prop :=
  ∀ (e8 : Byte) (s : State),
    (∀ f ∈ incPairForms, exec f.1 s = .next { s with
      regs := s.regs.set16 (BitVec.ofNat 16 ((s.regs.get16 f.2).toNat + 1)) f.2, pendingTicks := s.pendingTicks + 4 }) ∧
    (∀ f ∈ decPairForms, exec f.1 s = .next { s with
      regs := s.regs.set16 (BitVec.ofNat 16 ((s.regs.get16 f.2).toNat + 65535)) f.2,
      pendingTicks := s.pendingTicks + 4 }) ∧
    (∀ f ∈ addPairForms,
      let x := (s.regs.get16 .hl).toNat
      let v := (s.regs.get16 f.2).toNat
      exec f.1 s = .next { s with
        regs := s.regs.set16 (BitVec.ofNat 16 ((x + v) % 65536)) .hl,
        flags := { z := s.flags.z, n := false, h := decide (x % 4096 + v % 4096 > 4095), c := decide (x + v > 65535) },
        pendingTicks := s.pendingTicks + 4 }) ∧
    (let x := s.regs.sp.toNat
     let sum := displaced s.regs.sp e8
     let f : Flags := { z := false, n := false, h := decide (x % 16 + e8.toNat % 16 > 15),
                        c := decide (x % 256 + e8.toNat > 255) }
     exec (.addSpE8 e8) s = .next { s with
       regs := { s.regs with sp := sum }, flags := f, pendingTicks := s.pendingTicks + 8 } ∧
     exec (.ldHlSpE8 e8) s = .next { s with
       regs := s.regs.set16 sum .hl, flags := f, pendingTicks := s.pendingTicks + 4 })

/-- O28. JP n16 and JP cc,n16 write pc with the immediate, JR e8 and JR cc,e8 with pc plus the signed displacement
modulo 65536 (pc already past the instruction), each with one internal cycle where taken; a conditional form that
is not taken changes nothing; JP HL writes pc with hl and accrues no cycle. No flag, no register but pc, and
nothing else changes. [R334, R700, R701, R702, R710, R711] -/
def Obligations.JumpResults : Prop :=
  ∀ (n16 : Word) (e8 : Byte) (s : State),
    (∀ f ∈ jumpForms n16 s, exec f.1 s =
      if f.2 then .next { s with regs := { s.regs with pc := n16 }, pendingTicks := s.pendingTicks + 4 }
      else .next s) ∧
    (∀ f ∈ jumpRelForms e8 s, exec f.1 s =
      if f.2 then .next { s with
        regs := { s.regs with pc := displaced s.regs.pc e8 },
        pendingTicks := s.pendingTicks + 4 }
      else .next s) ∧
    exec .jpHl s = .next { s with regs := { s.regs with pc := Word.ofBytes s.regs.h s.regs.l } }

/-- O29. A taken CALL n16, CALL cc,n16 or RST t, where its two bus writes raise no fatal condition, answers the state
after pushing the address after the instruction (high byte at sp - 1, low byte at sp - 2), with sp two lower, pc
at the target and one internal cycle accrued, and no other register and no flag changed; a conditional call that
is not taken changes nothing, neither sp nor memory. [R232, R720, R721, R730] -/
def Obligations.CallAndRestartResults : Prop :=
  ∀ (n16 : Word) (s : State), ∀ f ∈ callForms n16 s,
    (f.2.2 = false → exec f.1 s = .next s) ∧
    (f.2.2 = true →
      let u : State := { s with pendingTicks := s.pendingTicks + 4 }
      (pushFirst u s.regs.pc).broken = false → (pushBoth u s.regs.pc).broken = false →
      exec f.1 s = .next { pushBoth u s.regs.pc with
        regs := { s.regs with sp := s.regs.sp - 2, pc := f.2.1 }, flags := s.flags,
        pendingTicks := s.pendingTicks + 4 })

/-- O30. A taken RET or RET cc, where its two bus reads raise no fatal condition, answers the state after them with pc
the popped word, sp two higher and one internal cycle accrued, and one more for the condition of RET cc; RET cc
not taken only accrues that one cycle; RETI does as RET and sets IME at once. IME is unchanged by RET and RET cc;
no flag and no other register changes. [R233, R722, R723, R724, R1040] -/
def Obligations.ReturnResults : Prop :=
  ∀ s : State,
    (∀ f ∈ retForms s,
      let u : State := { s with pendingTicks := s.pendingTicks + 4 * f.2.1 }
      (f.2.2 = false → exec f.1 s = .next u) ∧
      (f.2.2 = true → (popFirst u).2.broken = false → (popSecond u).2.broken = false →
        exec f.1 s = .next { popDone u with
          regs := { s.regs with sp := s.regs.sp + 2, pc := popWord u }, flags := s.flags,
          pendingTicks := s.pendingTicks + 4 * f.2.1 + 4 })) ∧
    ((popFirst s).2.broken = false → (popSecond s).2.broken = false →
      exec .reti s = .next { popDone s with
        regs := { s.regs with sp := s.regs.sp + 2, pc := popWord s }, flags := s.flags, ime := true,
        pendingTicks := s.pendingTicks + 4 })

/-- O31. RLCA, RRCA, RLA and RRA rotate a, set C to the bit rotated out and always clear Z, N and H, with nothing else
changed. Every secondary-table rotate or shift, on a register or on [HL], reads its operand, writes the result
back to the same place and sets Z by the result, C by the carry-out, and clears N and H; where its bus accesses
raise no fatal condition exec answers exactly that state, with nothing else changed. [R800, R801, R802, R803,
R810, R811, R812, R813, R815, R817, R821, R823] -/
def Obligations.RotateAndShiftResults : Prop :=
  ∀ s : State,
    (∀ f ∈ rotAccForms,
      exec f.1 s = .next { s with
        regs := { s.regs with a := BitVec.ofNat 8 (rotated f.2 s.regs.a.toNat s.flags.c.toNat).1 },
        flags := { z := false, n := false, h := false, c := (rotated f.2 s.regs.a.toNat s.flags.c.toNat).2 } }) ∧
    (∀ f ∈ rotForms,
      let r := readAt s f.2.2
      let q := rotated f.2.1 r.1.toNat s.flags.c.toNat
      let t := writeAt r.2 (BitVec.ofNat 8 q.1) f.2.2
      r.2.broken = false → t.broken = false →
        exec f.1 s = .next { t with flags := { z := decide (q.1 = 0), n := false, h := false, c := q.2 } })

/-- O32. Every BIT b, on a register or on [HL], reads its operand and sets Z where bit b is 0, clears N, sets H and
leaves C; where the read raises no fatal condition exec answers the state after it with exactly these flags; the
operand is not written. [R830, R831] -/
def Obligations.BitTestResults : Prop :=
  ∀ s : State, ∀ f ∈ bitForms, (readAt s f.2.2).2.broken = false →
    exec f.1 s = .next { (readAt s f.2.2).2 with
      regs := s.regs,
      flags := { z := decide ((readAt s f.2.2).1.toNat / 2 ^ f.2.1 % 2 = 0), n := false, h := true, c := s.flags.c } }

/-- O33. Every RES b and SET b, on a register or on [HL], reads its operand and writes back, to the same place, the
byte that differs from it in bit b at most: 0 there for RES, 1 for SET; the write is made even where the bit had
that value. Where the read raises no fatal condition exec answers the state after the write; no flag changes.
[R832, R833, R834, R835] -/
def Obligations.BitClearAndSetResults : Prop :=
  ∀ s : State, ∀ w : Byte,
    (∀ f ∈ resForms, (readAt s f.2.2).2.broken = false →
      (∀ k < 8, w.getLsbD k = (decide (k ≠ f.2.1) && (readAt s f.2.2).1.getLsbD k)) →
      exec f.1 s = .next (writeAt (readAt s f.2.2).2 w f.2.2)) ∧
    (∀ f ∈ setForms, (readAt s f.2.2).2.broken = false →
      (∀ k < 8, w.getLsbD k = (decide (k = f.2.1) || (readAt s f.2.2).1.getLsbD k)) →
      exec f.1 s = .next (writeAt (readAt s f.2.2).2 w f.2.2))

/-- O34. The primary row PREFIX CB, given its second byte, does in every state exactly what the instruction of the
secondary map at that byte does; the fields of rule R322 and the cells of rule R341 agree for all 256 bytes. In a
state quiet for 8 ticks (the model's own premise, log entry 3) it completes: exec answers a next state with
nothing broken, the same pc and sp, and no internal cycle accrued. [30_encoding.md R322, 30_encoding.md R341,
45_system.md R901] -/
def Obligations.PrefixForwardsToSecondary : Prop :=
  ∀ (op2 : Byte) (s : State), exec (.prefixCb op2) s = exec (decodeSecondary op2) s ∧
  (s.Quiet 8 → ∃ t, exec (.prefixCb op2) s = .next t ∧ t.broken = false ∧ t.regs.pc = s.regs.pc ∧
    t.regs.sp = s.regs.sp ∧ t.pendingTicks = s.pendingTicks)

/-- O35. NOP's body changes nothing; DI clears IME at once, cancels no event and changes nothing else. EI leaves IME
and adds one pending event, id EnableInterrupts, due 4 ticks ahead, whose callback sets IME; with 64 events
already pending it ends in the fatal SchedulerCapacityExceeded with that id and adds none. Nothing else changes in
either case. [R900, R920, R921, R1003] -/
def Obligations.NopDiAndEiResults : Prop :=
  ∀ s : State, exec .nop s = .next s ∧ exec .di s = .next { s with ime := false } ∧
    (s.events.length < 64 →
      exec .ei s = .next { s with
        events := s.events ++ [{ id := .enableInterrupts, dueTick := s.currentTick + 4, callback := .enableIme,
                                 seq := s.nextSeq }],
        nextSeq := s.nextSeq + 1 }) ∧
    (64 ≤ s.events.length →
      exec .ei s = .next { s with
        broken := true, brokenReason := some (.schedulerCapacityExceeded .enableInterrupts) })

/-- O36. From a state that is not broken, with room for the event and no callback effect of the environment lined up
(an environment callback could cancel the event), EI leaves IME as it was, and IME is set after the ticks of the
very next bus access, whatever its address: the next step's opcode fetch, or the first push of a dispatch.
[45_system.md R921, 60_exceptions.md R1070, 70_reset_and_hazards.md R1210] -/
def Obligations.EnableImeFiresInTheNextAccess : Prop :=
  ∀ (s : State) (x : Word), s.broken = false → s.events.length < 64 → s.env.callbacks = [] →
    ∃ t, exec .ei s = .next t ∧ t.ime = s.ime ∧ (t.memRead x).2.ime = true ∧ (t.tick 4).ime = true

/-- O37. HALT with IME clear and an interrupt available sets haltBug and changes nothing else. Otherwise, in a state
that is not broken: with an interrupt available (so IME is set) the halt skip makes no iteration and dispatch from
halt follows at once; with none available and no event pending, or with the cap at 0, it ends in the fatal
HaltSkipStuck while Halted, with no tick charged. [R910, R1004, R1050] -/
def Obligations.HaltBugOrHaltSkip : Prop :=
  ∀ s : State, s.broken = false →
    let available := s.ifr &&& s.ie &&& 0x1F#8 ≠ 0x00#8
    (s.ime = false → available → exec .halt s = .next { s with haltBug := true }) ∧
    (s.ime = true → available → exec .halt s = dispatchInterrupt true { s with cpuMode := .running }) ∧
    (¬ available → s.events = [] ∨ s.params.haltSkipCap = 0 →
      exec .halt s = .next { s with cpuMode := .halted, broken := true, brokenReason := some .haltSkipStuck })

/-- O38. In a state that is not broken, HALT without the halt bug (IME set, or no interrupt available) is the halt
skip from cpuMode Halted with the cap HALT_SKIP_CAP, whatever number of iterations that takes: if it ends in a
fatal condition that state is exec's answer; otherwise HALT resumes in Running, with a dispatch from halt if IME
is set or the parameter HALT_WAKE_DISPATCH_IME0 is, and without one otherwise. The skip: with an interrupt
available it ends at once; with no event pending, or the cap used up, it ends in the fatal HaltSkipStuck; else it
advances exactly to the least due tick d, runs the events due then and goes on with one iteration less, unless a
fatal condition arose. So one iteration that makes an interrupt available is HALT's wake. [R910, R1050, R1051] -/
def Obligations.HaltSkipAdvancesToTheNextEvent : Prop :=
  (∀ s : State, s.broken = false → s.ime = true ∨ s.ifr &&& s.ie &&& 0x1F#8 = 0x00#8 →
    let t := haltSkipLoop s.params.haltSkipCap { s with cpuMode := .halted }
    (t.broken = true → exec .halt s = .next t) ∧
    (t.broken = false →
      (t.ime = true ∨ t.params.haltWakeDispatchIme0 = true →
        exec .halt s = dispatchInterrupt true { t with cpuMode := .running }) ∧
      (t.ime = false → t.params.haltWakeDispatchIme0 = false →
        exec .halt s = .next { t with cpuMode := .running }))) ∧
  (∀ (m : Nat) (h : State), h.ifr &&& h.ie &&& 0x1F#8 ≠ 0x00#8 → haltSkipLoop m h = h) ∧
  (∀ (m : Nat) (h : State), h.ifr &&& h.ie &&& 0x1F#8 = 0x00#8 →
    (h.events = [] ∨ m = 0 →
      haltSkipLoop m h = { h with broken := true, brokenReason := some .haltSkipStuck }) ∧
    (∀ d, (∃ e ∈ h.events, e.dueTick = d) → (∀ e ∈ h.events, d ≤ e.dueTick) →
      let t := h.tick (d - h.currentTick)
      haltSkipLoop (m + 1) h = if t.broken then t else haltSkipLoop m t)) ∧
  (∀ (s : State) (d n : Nat), s.broken = false → s.params.haltSkipCap = n + 1 →
    s.ifr &&& s.ie &&& 0x1F#8 = 0x00#8 → (∃ e ∈ s.events, e.dueTick = d) → (∀ e ∈ s.events, d ≤ e.dueTick) →
    let t := ({ s with cpuMode := .halted } : State).tick (d - s.currentTick)
    t.broken = false → t.ifr &&& t.ie &&& 0x1F#8 ≠ 0x00#8 →
      (t.ime = true ∨ t.params.haltWakeDispatchIme0 = true →
        exec .halt s = dispatchInterrupt true { t with cpuMode := .running }) ∧
      (t.ime = false → t.params.haltWakeDispatchIme0 = false →
        exec .halt s = .next { t with cpuMode := .running }))

/-- O39. STOP without an armed switch is refused by name. Armed: two pending events of one affected id are refused; a
negative remaining delay faults; otherwise, with at most 64 events pending, exec answers a state in which
doubleSpeed is inverted, the switch disarmed, the unaffected events are untouched and in order, and each affected
event (DisplayMode, AudioSample, FrameSequencer) is pending with the same id and callback at currentTick plus its
remaining delay halved (towards double speed) or doubled (back). Registers, flags, IE, IF, IME, the clock and all
memory are unchanged. The model's own part: STOP itself disarms the switch (log entry 13), the refusal is looked
for before the fault, and the affected events are added again in the order they stood in (log entry 12).
[45_system.md R915, 60_exceptions.md R1080, 60_exceptions.md R1081, 60_exceptions.md R1006, 92_eei_decisions.md
D8] -/
def Obligations.StopSwitchesSpeedOrIsRefused : Prop :=
  ∀ (n8 : Byte) (s : State),
    let affectedId := fun (i : EventId) => i == .displayMode || i == .audioSample || i == .frameSequencer
    let hit := s.events.filter (fun e => affectedId e.id)
    (s.env.speedSwitchArmed = false → exec (.stop n8) s = .refused .stopWithoutSpeedSwitch) ∧
    (s.env.speedSwitchArmed = true → ¬ (hit.map (·.id)).Nodup →
      ∃ i, exec (.stop n8) s = .refused (.duplicateAffectedEvent i) ∧ 2 ≤ (hit.filter (fun e => e.id == i)).length) ∧
    (s.env.speedSwitchArmed = true → (hit.map (·.id)).Nodup → (∃ e ∈ hit, e.dueTick < s.currentTick) →
      ∃ i, exec (.stop n8) s = .fault (.negativeRemaining i)) ∧
    (s.env.speedSwitchArmed = true → (hit.map (·.id)).Nodup → (∀ e ∈ hit, s.currentTick ≤ e.dueTick) →
      s.broken = false → s.events.length ≤ 64 →
      ∃ evs seq, exec (.stop n8) s = .next { s with
          doubleSpeed := !s.doubleSpeed, events := evs, nextSeq := seq,
          env := { s.env with speedSwitchArmed := false } } ∧
        evs.filter (fun e => !affectedId e.id) = s.events.filter (fun e => !affectedId e.id) ∧
        (evs.filter (fun e => affectedId e.id)).map (fun e => (e.id, e.dueTick, e.callback)) =
          hit.map (fun e =>
            (e.id, s.currentTick + switchedDelay s.doubleSpeed (e.dueTick - s.currentTick), e.callback)))

/-- O40. Executing one of the 11 illegal opcodes sets the broken flag with the reason UnimplementedOpcode, its byte
and the address it was fetched from, and changes nothing else: no tick is charged and pc stays as the fetch left
it. [R902, R1000, R1001, R1002] -/
def Obligations.IllegalOpcodesAreFatal : Prop :=
  ∀ s : State, ∀ f ∈ illegalForms,
    exec f.1 s = .next { s with
      broken := true, brokenReason := some (.unimplementedOpcode f.2 s.fetchAddr) } ∧
    completeStep (exec f.1 s) = exec f.1 s

/-- O41. For every first byte but HALT, STOP and the 11 illegal ones, any operand bytes, and any state that is quiet
for 8 ticks with fewer than 64 events: exec of the decoded instruction answers a next state that is not broken;
the ticks it charged and accrued are those the opcode table gives the row (taken or not taken by the condition at
that moment) less the 4 ticks a fetched byte; each flag changes as the row says (unchanged, 0, 1 or computed); and
the instruction's length is the row's. The table stands in this file, written from spec/opcode_table.json.
[30_encoding.md R340, 30_encoding.md R341, 70_reset_and_hazards.md R1219] -/
def Obligations.OpcodeTableConformance : Prop :=
  ∀ (b0 b1 b2 : Byte) (s : State), s.Quiet 8 → s.events.length < 64 →
    b0 ≠ 0x76#8 → b0 ≠ 0x10#8 → (∀ f ∈ illegalForms, b0 ≠ f.2) →
    ∃ t, exec (decodeBytes b0 b1 b2) s = .next t ∧ t.broken = false ∧
      instrLength b0 = (tableRow b0 b1).length ∧
      t.currentTick + t.pendingTicks + 4 * (tableRow b0 b1).length =
        s.currentTick + s.pendingTicks + rowTicks b0 b1 s.flags ∧
      (tableRow b0 b1).flags.fits s.flags t.flags = true

/-- O42. In every state and whatever the environment does: if exec of any instruction answers a next state, each of
the four flags for which the instruction's row has '-' is unchanged, flag by flag. So C is kept by INC, DEC, BIT
and CPL, Z by ADD HL, CPL, SCF and CCF, N by DAA, and all four by every load, store, jump, call, return, PUSH, POP
of another pair than AF, RES, SET, HALT with its dispatch, STOP, EI and DI. Dispatch itself writes no flag. The
rows stand in this file, written from spec/opcode_table.json. [R114] -/
def Obligations.FlagsChangeOnlyWhereTheTableSays : Prop :=
  (∀ (i : Instr) (b0 : Byte) (bs : List Byte) (s t : State), encode i = b0 :: bs → exec i s = .next t →
    let row := (tableRow b0 (bs.headD 0x00#8)).flags
    (row.z = .keep → t.flags.z = s.flags.z) ∧ (row.n = .keep → t.flags.n = s.flags.n) ∧
      (row.h = .keep → t.flags.h = s.flags.h) ∧ (row.c = .keep → t.flags.c = s.flags.c)) ∧
  ∀ (h : Bool) (s t : State), dispatchInterrupt h s = .next t → t.flags = s.flags

/-- O43. In a state quiet for 8 ticks, for every instruction but HALT: if exec answers a next state, every address
that is not one the instruction stores to shows the same byte on the bus as before, IF and IE included. The stored
addresses are computed from the state before it as the rules say; a compare, a load, a register form or a call
that is not taken stores nothing. [41_loads.md R519, 20_memory.md R200, 20_memory.md R241] -/
def Obligations.MemoryFrame : Prop :=
  ∀ (i : Instr) (s t : State), s.Quiet 8 → i ≠ .halt → exec i s = .next t →
    ∀ x : Word, x ∉ storedAt i s → t.peek x = s.peek x

/-- O44. In a state quiet for 8 ticks with memory in canonical form: after a one-byte store the bus shows the stored
byte at its address; after PUSH, CALL and RST it shows the high byte of the pushed word at sp - 1 and the low byte
at sp - 2. At IF the shown byte has bits 5..7 set. That a read returns what was written is the reference RAM of
decision D31, which the model takes for an environment with no move of its own (log entry 3). [20_memory.md R222,
20_memory.md R232, 20_memory.md R241, 92_eei_decisions.md D31] -/
def Obligations.StoredBytesShowOnTheBus : Prop :=
  ∀ (n8 : Byte) (n16 : Word) (s : State), s.Quiet 8 → Memory.wf s.env.mem →
    let shown := fun (x : Word) (v : Byte) => if x = 0xFF0F#16 then v ||| 0xE0#8 else v
    (∀ f ∈ storeForms n8 n16 s, ∃ t, exec f.1 s = .next t ∧ t.peek f.2.1 = shown f.2.1 f.2.2) ∧
    (∃ t, exec (.ldAtN16Sp n16) s = .next t ∧ t.peek n16 = shown n16 s.regs.sp.lo ∧
      t.peek (n16 + 1) = shown (n16 + 1) s.regs.sp.hi) ∧
    (∀ f ∈ pushForms, ∃ t, exec f.1 s = .next t ∧
      t.peek (s.regs.sp - 1) = shown (s.regs.sp - 1) (pairWord s f.2).hi ∧
      t.peek (s.regs.sp - 2) = shown (s.regs.sp - 2) (pairWord s f.2).lo) ∧
    (∀ f ∈ callForms n16 s, f.2.2 = true → ∃ t, exec f.1 s = .next t ∧
      t.peek (s.regs.sp - 1) = shown (s.regs.sp - 1) s.regs.pc.hi ∧
      t.peek (s.regs.sp - 2) = shown (s.regs.sp - 2) s.regs.pc.lo)

/-- O45. In every state and whatever the environment does, for every instruction whose exec answers a next state: the
speed mode changes only by STOP; haltBug only by HALT; cpuMode only by HALT; IME goes from set to clear only by DI
or a HALT that dispatches; the launch parameters and fetchAddr never change; currentTick and ticksThisCall advance
by the same amount and never fall back. [10_state.md R122, 10_state.md R131, 10_state.md R146, 10_state.md R134,
60_exceptions.md R1082] -/
def Obligations.ControlStateFrame : Prop :=
  ∀ (i : Instr) (s t : State), exec i s = .next t →
    ((∀ n8, i ≠ .stop n8) → t.doubleSpeed = s.doubleSpeed) ∧
    (i ≠ .halt → t.haltBug = s.haltBug ∧ t.cpuMode = s.cpuMode) ∧
    (i ≠ .di → i ≠ .halt → s.ime = true → t.ime = true) ∧
    t.params = s.params ∧ t.fetchAddr = s.fetchAddr ∧
    s.currentTick ≤ t.currentTick ∧ t.ticksThisCall + s.currentTick = s.ticksThisCall + t.currentTick

/-- O46. For every step that answers a next state, from any state: ticksThisCall is exactly the difference of
currentTick across the step, the clock does not run back, and the launch parameters are unchanged. So time passes
only inside steps. [70_reset_and_hazards.md R1220, 10_state.md R134, 60_exceptions.md R1067] -/
def Obligations.StepReturnsItsTicks : Prop :=
  ∀ s t : State, step s = .next t →
    t.currentTick = s.currentTick + t.ticksThisCall ∧ t.params = s.params

/-- O47. Every bus read first makes tick(4). If that raised a fatal condition, the state after it is the answer.
Otherwise: at 0xFF0F the byte is IF and at 0xFFFF it is IE as they are after the ticks, and nothing else of the
block changes but the log; at any other address the byte is the environment's next answer, or, with none lined up
or an answer that names no byte, the byte of its memory. In every case the registers, flags, IE, pendingTicks,
haltBug, speed mode and parameters are those before the read, in either speed mode, and the pending events, their
numbering and the broken flag are those after the ticks: an answer neither adds nor cancels an event. The list of
answers and the memory behind it are the model's choice (log entry 3). [20_memory.md R201, 20_memory.md R210,
20_memory.md R212, 20_memory.md R241, 60_exceptions.md R1087] -/
def Obligations.BusReadContract : Prop :=
  ∀ (s : State) (x : Word),
    let t := s.tick 4
    let r := s.memRead x
    (t.broken = true → r.2 = t) ∧
    (t.broken = false → x = 0xFF0F#16 → r = (t.ifr, t.observe (.read t.currentTick x t.ifr))) ∧
    (t.broken = false → x = 0xFFFF#16 → r = (t.ie, t.observe (.read t.currentTick x t.ie))) ∧
    (t.broken = false → x ≠ 0xFF0F#16 → x ≠ 0xFFFF#16 →
      (t.env.reads = [] → r.1 = t.env.mem.read x.toNat) ∧
      (∀ answer acts rest, t.env.reads = { answer := answer, acts := acts } :: rest →
        r.1 = answer.getD (t.env.mem.read x.toNat) ∧ r.2.env.reads = rest)) ∧
    s.SameCore r.2 ∧ r.2.currentTick = s.currentTick + 4 ∧ r.2.ticksThisCall = s.ticksThisCall + 4 ∧
    r.2.events = t.events ∧ r.2.nextSeq = t.nextSeq ∧ r.2.broken = t.broken ∧ r.2.brokenReason = t.brokenReason ∧
    (s.ime = true → r.2.ime = true)

/-- O48. Every bus write first makes tick(4). If that raised a fatal condition the write does not land. Otherwise: at
0xFF0F, IF becomes v | 0xE0; at 0xFFFF, IE becomes v, all eight bits; in both cases nothing else of the block
changes but the log; at any other address the byte is handed to the environment, whose handling cannot touch the
registers, flags, IE, pendingTicks, haltBug, speed mode or parameters. With no handling of its own lined up, the
environment's memory takes the byte and nothing else changes but the log: the reference RAM of decision D31, the
model's choice (log entry 3). [20_memory.md R201, 20_memory.md R211, 20_memory.md R212, 20_memory.md R241,
92_eei_decisions.md D31] -/
def Obligations.BusWriteContract : Prop :=
  ∀ (s : State) (x : Word) (v : Byte),
    let t := s.tick 4
    let u := s.memWrite x v
    let o : Observation := .write t.currentTick x v
    (t.broken = true → u = t) ∧
    (t.broken = false → x = 0xFF0F#16 → u = { t.observe o with ifr := v ||| 0xE0#8 }) ∧
    (t.broken = false → x = 0xFFFF#16 → u = { t.observe o with ie := v }) ∧
    (x ≠ 0xFFFF#16 → s.SameCore u) ∧
    (t.broken = false → x ≠ 0xFF0F#16 → x ≠ 0xFFFF#16 → t.env.writes = [] →
      u = { t.observe o with env := { (t.observe o).env with mem := t.env.mem.write x.toNat v } }) ∧
    u.currentTick = s.currentTick + 4 ∧ u.ticksThisCall = s.ticksThisCall + 4

/-- O49. Two memories in the model's canonical form that read the same at each of the 65536 addresses are equal as
data; a write keeps the form, reads back at its address and changes no other; writing back what an address reads
as changes nothing. The form is the model's choice (log entry 2). [20_memory.md R200] -/
def Obligations.MemoryIsCanonical : Prop :=
  (∀ m m' : Memory, Memory.wf m → Memory.wf m' → (∀ x < 65536, m.read x = m'.read x) → m = m') ∧
  ∀ (m : Memory) (x y : Nat) (v : Byte), Memory.wf m → x < 65536 →
    Memory.wf (m.write x v) ∧ (m.write x v).read y = (if y = x then v else m.read y) ∧ m.write x (m.read x) = m

/-- O50. select() answers source k exactly when k is in 0..4, bit k of IF and of IE are both 1 and no lower source has
both; it answers none exactly when IF & IE & 0x1F is 0. The selection step answers the vector 0x0040 + 8k and
clears bit k of IF alone; with no source it answers 0x0000 and clears nothing: the spec's own decision D5 (R1030,
R1033). IME does not enter. [60_exceptions.md R1020, 60_exceptions.md R1021, 60_exceptions.md R1030,
60_exceptions.md R1033, 92_eei_decisions.md D5] -/
def Obligations.LeastSourceIsSelected : Prop :=
  ∀ s : State,
    (∀ k : Nat, s.selectSource = some k ↔
      k < 5 ∧ s.ifr.getLsbD k = true ∧ s.ie.getLsbD k = true ∧
        ∀ j < k, ¬ (s.ifr.getLsbD j = true ∧ s.ie.getLsbD j = true)) ∧
    (s.selectSource = none ↔ s.ifr &&& s.ie &&& 0x1F#8 = 0x00#8) ∧
    (s.selectSource = none → s.selectAndClear = (0x0000#16, s)) ∧
    (∀ k, s.selectSource = some k →
      s.selectAndClear.1.toNat = 0x40 + 8 * k ∧
      (∀ j < 8, s.selectAndClear.2.ifr.getLsbD j = (s.ifr.getLsbD j && decide (j ≠ k))) ∧
      s.selectAndClear.2 = { s with ifr := s.selectAndClear.2.ifr })

/-- O51. dispatchInterrupt makes: 4 ticks; sp - 1 and a bus write of pc's high byte there; 2 ticks if not from halt;
the selection on IF and IE as they are then, so a push onto them or a callback in between redirects or cancels it,
with only the selected request bit cleared; 2 ticks if not from halt and 4 if from halt; IME cleared; sp - 2 and a
bus write of pc's low byte there; 4 ticks; pc at the vector (0x0000 if nothing was selected). If none of these
raises a fatal condition exec answers that state; the first that does ends the dispatch in the state it left.
[R1030, R1033, R1034, R1035] -/
def Obligations.DispatchSequence : Prop :=
  ∀ (fromHalt : Bool) (s : State),
    let t1 := s.tick 4
    let t2 := ({ t1 with regs := { s.regs with sp := s.regs.sp - 1 } } : State).memWrite (s.regs.sp - 1) s.regs.pc.hi
    let t3 := if fromHalt then t2 else t2.tick 2
    let k := leastSource t3.ie t3.ifr
    let vector : Word := match k with
      | some k => BitVec.ofNat 16 (0x40 + 8 * k)
      | none => 0x0000#16
    let t4 : State := match k with
      | some k => { t3 with ifr := t3.ifr &&& ~~~ (0x01#8 <<< k) }
      | none => t3
    let t5 := t4.tick (if fromHalt then 4 else 2)
    let t6 := ({ t5 with ime := false, regs := { s.regs with sp := s.regs.sp - 2 } } : State).memWrite
      (s.regs.sp - 2) s.regs.pc.lo
    let t7 := t6.tick 4
    (t1.broken = true → dispatchInterrupt fromHalt s = .next t1) ∧
    (t1.broken = false →
      (t2.broken = true → dispatchInterrupt fromHalt s = .next t2) ∧
      (t2.broken = false →
        (t3.broken = true → dispatchInterrupt fromHalt s = .next t3) ∧
        (t3.broken = false →
          (t5.broken = true → dispatchInterrupt fromHalt s = .next t5) ∧
          (t5.broken = false →
            (t6.broken = true → dispatchInterrupt fromHalt s = .next t6) ∧
            (t6.broken = false →
              (t7.broken = true → dispatchInterrupt fromHalt s = .next t7) ∧
              (t7.broken = false → dispatchInterrupt fromHalt s = .next { t7 with
                regs := { s.regs with sp := s.regs.sp - 2, pc := vector } }))))))

/-- O52. From a state quiet for 20 ticks with memory in canonical form, dispatch answers a next state, from halt or
not, in 20 ticks: sp two lower; pc at the vector of the least source requested and enabled after the high byte was
pushed (a push at 0xFFFF or 0xFF0F has changed IE or IF), or 0x0000; IME clear; that source's request bit clear
and no other; the return address high byte at sp - 1 and low byte at sp - 2, written at ticks 8 and 16; the low
push may change IE or IF after the choice but not the vector; flags, other registers, events and all other memory
unchanged. [60_exceptions.md R1030, 60_exceptions.md R1031, 60_exceptions.md R1033, 70_reset_and_hazards.md R1213,
92_eei_decisions.md D5] -/
def Obligations.DispatchInQuietTime : Prop :=
  ∀ (fromHalt : Bool) (s : State), s.Quiet 20 → Memory.wf s.env.mem →
    let hiAt := s.regs.sp - 1
    let loAt := s.regs.sp - 2
    let ie1 := ieAfter s hiAt s.regs.pc.hi
    let if1 := ifAfter s hiAt s.regs.pc.hi
    let k := leastSource ie1 if1
    let if2 := match k with
      | some k => if1 &&& ~~~ (0x01#8 <<< k)
      | none => if1
    ∃ t, dispatchInterrupt fromHalt s = .next t ∧
      t.regs = { s.regs with
        sp := loAt,
        pc := match k with
          | some k => BitVec.ofNat 16 (0x40 + 8 * k)
          | none => 0x0000#16 } ∧
      t.flags = s.flags ∧ t.ime = false ∧ t.broken = false ∧ t.events = s.events ∧
      t.pendingTicks = s.pendingTicks ∧ t.haltBug = s.haltBug ∧ t.doubleSpeed = s.doubleSpeed ∧
      t.currentTick = s.currentTick + 20 ∧ t.ticksThisCall = s.ticksThisCall + 20 ∧
      t.ie = (if loAt = 0xFFFF#16 then s.regs.pc.lo else ie1) ∧
      t.ifr = (if loAt = 0xFF0F#16 then s.regs.pc.lo ||| 0xE0#8 else if2) ∧
      (coreOwned hiAt = false → t.peek hiAt = s.regs.pc.hi) ∧
      (coreOwned loAt = false → t.peek loAt = s.regs.pc.lo) ∧
      (∀ x : Word, coreOwned x = false → x ≠ hiAt → x ≠ loAt → t.peek x = s.peek x) ∧
      t.env.log = .write (s.currentTick + 16) loAt s.regs.pc.lo ::
        .write (s.currentTick + 8) hiAt s.regs.pc.hi :: s.env.log

/-- O53. From a state quiet for 12 ticks whose bytes at pc decode to any well-formed instruction i: if exec i on the
fetched state answers u, not broken, and v is u after its pending ticks, then with IME set and IF & IE & 0x1F not
0 in v step is dispatchInterrupt(false) of v. If the state is quiet for 48 ticks with memory in canonical form,
and i is not HALT, STOP, EI or illegal: exec i does answer a u, and with IME set and a least requested and enabled
source k in u, and the two bytes below u's sp environment addresses, step answers a next state with IME clear, pc
at the vector of k, that request bit alone cleared, u's pc (the next instruction's address) pushed below u's sp,
sp two lower, the other registers, flags, IE and memory those of u, no pending ticks, and the ticks of i's row
plus 20 charged. 'Quiet' is the model's premise (log entry 3). [30_encoding.md R310, 30_encoding.md R312,
30_encoding.md R313, 60_exceptions.md R1030, 60_exceptions.md R1031, 60_exceptions.md R1032] -/
def Obligations.InterruptIsTakenAtTheStepEnd : Prop :=
  ∀ (s : State) (i : Instr) (rest : List Byte), s.Quiet 12 → i.wellFormed = true → decode (stream s) = .ok (i, rest) →
    (∀ u v : State, exec i (fetched s (encode i).length) = .next u → u.broken = false →
      (u.pendingTicks = 0 ∧ v = u ∨
        0 < u.pendingTicks ∧ (u.tick u.pendingTicks).broken = false ∧
          v = { u.tick u.pendingTicks with pendingTicks := 0 }) →
      v.ime = true → v.ifr &&& v.ie &&& 0x1F#8 ≠ 0x00#8 → step s = dispatchInterrupt false v) ∧
    (s.Quiet 48 → Memory.wf s.env.mem → s.peek s.regs.pc ∉ [0x76#8, 0x10#8, 0xFB#8] →
      (∀ f ∈ illegalForms, s.peek s.regs.pc ≠ f.2) →
      ∃ u, exec i (fetched s (encode i).length) = .next u ∧
        ∀ k, u.ime = true → leastSource u.ie u.ifr = some k →
          coreOwned (u.regs.sp - 1) = false → coreOwned (u.regs.sp - 2) = false →
          ∃ t, step s = .next t ∧ t.ime = false ∧ t.ie = u.ie ∧ t.ifr = u.ifr &&& ~~~ (0x01#8 <<< k) ∧
            t.regs = { u.regs with sp := u.regs.sp - 2, pc := BitVec.ofNat 16 (0x40 + 8 * k) } ∧ t.flags = u.flags ∧
            t.peek (u.regs.sp - 1) = u.regs.pc.hi ∧ t.peek (u.regs.sp - 2) = u.regs.pc.lo ∧
            (∀ x : Word, coreOwned x = false → x ≠ u.regs.sp - 1 → x ≠ u.regs.sp - 2 → t.peek x = u.peek x) ∧
            t.events = u.events ∧ t.pendingTicks = 0 ∧ t.broken = false ∧
            t.ticksThisCall = rowTicks (s.peek s.regs.pc) (s.peek (s.regs.pc + opcodeAdvance s)) s.flags + 20 ∧
            t.currentTick = s.currentTick + t.ticksThisCall)

/-- O54. From a state quiet for 40 ticks with IME clear and no halt bug, whose bytes at pc decode to a well-formed
instruction i other than HALT, STOP, EI, RETI and the illegal ones: step answers a next state t; exec i on the
fetched state answers a state u whose registers, flags, IE, IF and IME are t's; t's clock is s's plus the ticks of
i's row in the opcode table, all counted in ticksThisCall; no pending ticks are left and nothing is broken.
[30_encoding.md R310, 30_encoding.md R312, 30_encoding.md R340, 30_encoding.md R341, 70_reset_and_hazards.md
R1218] -/
def Obligations.QuietStepWithoutInterrupt : Prop :=
  ∀ (s : State) (i : Instr) (rest : List Byte), s.Quiet 40 → s.ime = false → s.haltBug = false →
    i.wellFormed = true → decode [s.peek s.regs.pc, s.peek (s.regs.pc + 1), s.peek (s.regs.pc + 2)] = .ok (i, rest) →
    s.peek s.regs.pc ∉ [0x76#8, 0x10#8, 0xFB#8, 0xD9#8] → (∀ f ∈ illegalForms, s.peek s.regs.pc ≠ f.2) →
    ∃ log u t, exec i { s with
        regs := { s.regs with pc := s.regs.pc + BitVec.ofNat 16 (encode i).length },
        pendingTicks := 0, fetchAddr := s.regs.pc, currentTick := s.currentTick + 4 * (encode i).length,
        ticksThisCall := 4 * (encode i).length, env := { s.env with log := log } } = .next u ∧
      step s = .next t ∧ t.regs = u.regs ∧ t.flags = u.flags ∧ t.ie = u.ie ∧ t.ifr = u.ifr ∧ t.ime = false ∧
      t.pendingTicks = 0 ∧ t.broken = false ∧
      t.currentTick = s.currentTick + rowTicks (s.peek s.regs.pc) (s.peek (s.regs.pc + 1)) s.flags ∧
      t.ticksThisCall = rowTicks (s.peek s.regs.pc) (s.peek (s.regs.pc + 1)) s.flags

/-- O55. With fewer than 64 events pending, addEventRelative adds exactly one event, due delta ticks ahead with the
given id and callback and the next sequence number, and afterwards nextEventTick is the least due tick of all;
with 64 it ends in the fatal SchedulerCapacityExceeded with that id and adds none. cancelEventsById removes
exactly the events of the id, is idempotent, and leaves none. Neither changes anything else. [R1003, R1061, R1062] -/
def Obligations.AddAndCancelEvents : Prop :=
  ∀ (s : State) (i : EventId) (d : Nat) (cb : Callback),
    (s.events.length < 64 →
      s.addEventRelative i d cb = { s with
        events := s.events ++ [{ id := i, dueTick := s.currentTick + d, callback := cb, seq := s.nextSeq }],
        nextSeq := s.nextSeq + 1 } ∧
      ∃ n, (s.addEventRelative i d cb).nextEventTick = some n ∧ n ≤ s.currentTick + d ∧
        (∀ e ∈ s.events, n ≤ e.dueTick) ∧ (n = s.currentTick + d ∨ ∃ e ∈ s.events, n = e.dueTick)) ∧
    (64 ≤ s.events.length →
      s.addEventRelative i d cb = { s with broken := true, brokenReason := some (.schedulerCapacityExceeded i) }) ∧
    (s.cancelEventsById i = { s with events := (s.cancelEventsById i).events }) ∧
    (∀ e, e ∈ (s.cancelEventsById i).events ↔ e ∈ s.events ∧ e.id ≠ i) ∧
    (s.cancelEventsById i).cancelEventsById i = s.cancelEventsById i

/-- O56. On an empty scheduler popFirstEvent ends in the fatal EmptyHeapPop. Otherwise it answers a pending event
whose due tick is least and removes that one alone, touching nothing else but the record of the choices; and for
every event of least due tick there is a choice of the environment under which it is the one popped, so no order
among equal due ticks is fixed. [R1005, R1063, R1064] -/
def Obligations.PopTakesAnyLeastEvent : Prop :=
  ∀ s : State,
    (s.events = [] → s.popFirstEvent = (none, s.raiseFatal .emptyHeapPop)) ∧
    (s.events ≠ [] → ∃ e ties draws, s.popFirstEvent =
        (some e, { s with events := s.events.erase e, env := { s.env with ties := ties, tieDraws := draws } }) ∧
      e ∈ s.events ∧ ∀ f ∈ s.events, e.dueTick ≤ f.dueTick) ∧
    (∀ e ∈ s.events, (∀ f ∈ s.events, e.dueTick ≤ f.dueTick) →
      ∃ ties, (({ s with env := { s.env with ties := ties } } : State).popFirstEvent).1 = some e)

/-- O57. From any state, tick(n) adds to the log only callbacks, each at the tick currentTick + n with its lateTicks,
and in the order they ran their due ticks (currentTick + n - lateTicks) do not decrease, whatever the callbacks
add or cancel. Afterwards, unless a fatal condition arose, every pending event lies in the future. A round of the
loop that pops the event e logs e's id with lateTicks = currentTick - e's due tick, and if e's callback is
EnableIme sets IME and changes nothing else. The loop is the rule's: with nothing due tick(n) only adds n to
currentTick and ticksThisCall; with an event due it makes one round, ends there on a fatal condition, and
otherwise looks at the clock again with no tick added. The log is the model's own record (log entry 7).
[60_exceptions.md R1060, 60_exceptions.md R1065, 60_exceptions.md R1070, 10_state.md R145] -/
def Obligations.CallbacksFireInDueOrder : Prop :=
  (∀ (s : State) (n : Nat),
    (∃ new : List (EventId × Nat),
      (s.tick n).env.log = (new.map (fun c => .callback (s.currentTick + n) c.1 c.2)) ++ s.env.log ∧
      new.Pairwise (fun later earlier => later.2 ≤ earlier.2)) ∧
    ((s.tick n).broken = false → ∀ e ∈ (s.tick n).events, s.currentTick + n < e.dueTick)) ∧
  (∀ (s t : State) (e : Event), s.popFirstEvent = (some e, t) →
    s.runFirstEvent.env.log = .callback s.currentTick e.id (s.currentTick - e.dueTick) :: s.env.log ∧
    (e.callback = .enableIme → s.runFirstEvent = { t with
      ime := true, env := { t.env with log := s.runFirstEvent.env.log } })) ∧
  (∀ (s : State) (n : Nat),
    let u : State := { s with currentTick := s.currentTick + n, ticksThisCall := s.ticksThisCall + n }
    ((∀ e ∈ u.events, u.currentTick < e.dueTick) → s.tick n = u) ∧
    ((∃ e ∈ u.events, e.dueTick ≤ u.currentTick) →
      s.tick n = if u.runFirstEvent.broken then u.runFirstEvent else u.runFirstEvent.tick 0))

/-- O58. From every state that is not broken and has no reason recorded, no step ends with the reason EmptyHeapPop,
whatever the environment does: the tick loop pops only when an event is due and the halt skip checks for an empty
scheduler first. [60_exceptions.md R1005] -/
def Obligations.EmptyHeapPopIsUnreachable : Prop :=
  ∀ s t : State, s.broken = false → s.brokenReason = none → step s = .next t → t.brokenReason ≠ some .emptyHeapPop

/-- O59. For every instruction that makes bus accesses of its own, in every state: the first access, read or write,
that ends in a fatal condition (a callback or the environment's handling of a write overran the scheduler) gives
exec's answer, exactly the state that access left. No later access, register, flag, pc or IME write of the
instruction is made: a load writes no register, [HL+] and [HL-] do not step hl, a read-modify-write sets no flag,
POP, RET and RETI keep sp at the byte not read, CALL and RST do not jump. execute() then makes no further tick and
no interrupt check. The forms: loads, ALU, BIT, RES, SET, rotates and INC/DEC on [HL], [HL+]/[HL-], stores, LD
[n16],SP, PUSH, CALL, RST, POP, RET, RETI. That the step answers that state as a next state is the model's reading
(log entries 10 and 11). The fetch has FatalFetchEndsTheStep, the dispatch DispatchSequence, HALT
HaltSkipAdvancesToTheNextEvent. [60_exceptions.md R1001] -/
def Obligations.FatalConditionEndsTheStep : Prop :=
  ∀ (n8 : Byte) (n16 : Word) (s : State),
    let hl := s.r16 .hl
    let r := s.memRead hl
    let written := fun (v : Nat) => r.2.memWrite hl (BitVec.ofNat 8 v)
    let u : State := { s with pendingTicks := s.pendingTicks + 4 }
    (∀ f ∈ loadForms n8 n16 s, EndsAtFirstBroken f.1 s [(s.memRead f.2.2).2]) ∧
    (∀ l ∈ [addForms n8, adcForms n8, subForms n8, sbcForms n8, andForms n8, xorForms n8, orForms n8, cpForms n8],
      ∀ f ∈ l, f.2 = .atHl → EndsAtFirstBroken f.1 s [r.2]) ∧
    (∀ f ∈ bitForms, f.2.2 = .atHl → EndsAtFirstBroken f.1 s [r.2]) ∧
    (∀ i ∈ [Instr.ldAAtHlInc, Instr.ldAAtHlDec], EndsAtFirstBroken i s [r.2]) ∧
    EndsAtFirstBroken .incAtHl s [r.2, written (r.1.toNat + 1)] ∧
    EndsAtFirstBroken .decAtHl s [r.2, written (r.1.toNat + 255)] ∧
    (∀ f ∈ rotForms, f.2.2 = .atHl →
      EndsAtFirstBroken f.1 s [r.2, written (rotated f.2.1 r.1.toNat s.flags.c.toNat).1]) ∧
    (∀ f ∈ resForms, f.2.2 = .atHl →
      EndsAtFirstBroken f.1 s [r.2, written (r.1.toNat - (if r.1.getLsbD f.2.1 then 2 ^ f.2.1 else 0))]) ∧
    (∀ f ∈ setForms, f.2.2 = .atHl →
      EndsAtFirstBroken f.1 s [r.2, written (r.1.toNat + (if r.1.getLsbD f.2.1 then 0 else 2 ^ f.2.1))]) ∧
    (∀ f ∈ storeForms n8 n16 s, EndsAtFirstBroken f.1 s [s.memWrite f.2.1 f.2.2]) ∧
    (∀ i ∈ [Instr.ldAtHlIncA, Instr.ldAtHlDecA], EndsAtFirstBroken i s [s.memWrite hl s.regs.a]) ∧
    EndsAtFirstBroken (.ldAtN16Sp n16) s
      [s.memWrite n16 s.regs.sp.lo, (s.memWrite n16 s.regs.sp.lo).memWrite (n16 + 1) s.regs.sp.hi] ∧
    (∀ f ∈ pushForms, EndsAtFirstBroken f.1 s [pushFirst u (pairWord s f.2), pushBoth u (pairWord s f.2)]) ∧
    (∀ f ∈ callForms n16 s, f.2.2 = true →
      EndsAtFirstBroken f.1 s [pushFirst u s.regs.pc, pushBoth u s.regs.pc]) ∧
    (∀ f ∈ popForms, EndsAtFirstBroken f.1 s [(popFirst s).2, (popSecond s).2]) ∧
    (∀ f ∈ retForms s, f.2.2 = true →
      let w : State := { s with pendingTicks := s.pendingTicks + 4 * f.2.1 }
      EndsAtFirstBroken f.1 s [(popFirst w).2, (popSecond w).2]) ∧
    EndsAtFirstBroken .reti s [(popFirst s).2, (popSecond s).2] ∧
    (∀ t : State, t.broken = true → completeStep (.next t) = .next t)

/-- O60. In every state that is not broken: if the bus read of the opcode, of the second byte (for a row two or three
bytes long) or of the third (for a row three bytes long) ends in a fatal condition, step answers exactly the state
that read left, with ticksThisCall 4, 8 or 12. pc stands at the byte not read and haltBug is kept where the opcode
was the one; nothing is decoded or executed, no pending tick is charged and no interrupt is checked. That the step
answers that state as a next state is the model's reading (log entries 10 and 11). [60_exceptions.md R1001,
30_encoding.md R310, 30_encoding.md R311, 30_encoding.md R316] -/
def Obligations.FatalFetchEndsTheStep : Prop :=
  ∀ s : State, s.broken = false →
    let start : State := { s with ticksThisCall := 0, pendingTicks := 0, fetchAddr := s.regs.pc }
    let r0 := start.memRead s.regs.pc
    let t0 : State :=
      if s.haltBug then { r0.2 with haltBug := false } else { r0.2 with regs := { s.regs with pc := s.regs.pc + 1 } }
    let r1 := t0.memRead t0.regs.pc
    let t1 : State := { r1.2 with regs := { s.regs with pc := t0.regs.pc + 1 } }
    let r2 := t1.memRead t1.regs.pc
    let length := (tableRow r0.1 0x00#8).length
    (r0.2.broken = true → step s = .next r0.2 ∧ r0.2.ticksThisCall = 4 ∧ r0.2.regs = s.regs ∧
      r0.2.haltBug = s.haltBug) ∧
    (r0.2.broken = false →
      (2 ≤ length → r1.2.broken = true → step s = .next r1.2 ∧ r1.2.ticksThisCall = 8 ∧ r1.2.regs = t0.regs) ∧
      (length = 3 → r1.2.broken = false → r2.2.broken = true →
        step s = .next r2.2 ∧ r2.2.ticksThisCall = 12 ∧ r2.2.regs = t1.regs))
end

