-- ==== Sys2Proof/Laws/State.lean ====
section
/-! SUPPORT. One lemma per field per update of the state, true by unfolding, and the laws of the register file. -/

namespace Sys2Proof.Machine

/-! ### The register file -/

@[simp] theorem Registers.get8_set8_same (g : Registers) (v : Byte) (r : Reg8) : (g.set8 v r).get8 r = v := by
  cases r <;> rfl

theorem Registers.get8_set8_ne (g : Registers) (v : Byte) {r r' : Reg8} (h : r ≠ r') :
    (g.set8 v r).get8 r' = g.get8 r' := by
  cases r <;> cases r' <;> first | rfl | exact absurd rfl h

@[simp] theorem Registers.set8_sp (g : Registers) (v : Byte) (r : Reg8) : (g.set8 v r).sp = g.sp := by cases r <;> rfl

@[simp] theorem Registers.set8_pc (g : Registers) (v : Byte) (r : Reg8) : (g.set8 v r).pc = g.pc := by cases r <;> rfl

@[simp] theorem Registers.set16_pc (g : Registers) (v : Word) (r : Reg16) : (g.set16 v r).pc = g.pc := by
  cases r <;> rfl

theorem Word.getLsbD_ofBytes (hi lo : Byte) (i : Nat) :
    (Word.ofBytes hi lo).getLsbD i = if i < 8 then lo.getLsbD i else hi.getLsbD (i - 8) :=
  BitVec.getLsbD_append

@[simp] theorem Word.hi_ofBytes (hi lo : Byte) : (Word.ofBytes hi lo).hi = hi := by
  apply BitVec.eq_of_getLsbD_eq
  intro i h
  simp [Word.hi, Word.getLsbD_ofBytes, h]

@[simp] theorem Word.lo_ofBytes (hi lo : Byte) : (Word.ofBytes hi lo).lo = lo := by
  apply BitVec.eq_of_getLsbD_eq
  intro i h
  simp [Word.lo, Word.getLsbD_ofBytes, h]

@[simp] theorem Word.ofBytes_hi_lo (w : Word) : Word.ofBytes w.hi w.lo = w := by
  apply BitVec.eq_of_getLsbD_eq
  intro i h
  rw [Word.getLsbD_ofBytes]
  simp only [Word.hi, Word.lo, BitVec.getLsbD_extractLsb']
  split
  · simp_all
  · have h8 : 8 + (i - 8) = i := by omega
    have hi : i - 8 < 8 := by omega
    simp [h8, hi]

@[simp] theorem Registers.get16_set16_same (g : Registers) (v : Word) (r : Reg16) : (g.set16 v r).get16 r = v := by
  cases r <;> simp [Registers.get16, Registers.set16]

/-! ### Updates of the state, field by field -/

@[simp] theorem State.setR8_regs (s : State) (r : Reg8) (v : Byte) : (s.setR8 r v).regs = s.regs.set8 v r := rfl
@[simp] theorem State.setR8_flags (s : State) (r : Reg8) (v : Byte) : (s.setR8 r v).flags = s.flags := rfl
@[simp] theorem State.setR8_ie (s : State) (r : Reg8) (v : Byte) : (s.setR8 r v).ie = s.ie := rfl
@[simp] theorem State.setR8_ifr (s : State) (r : Reg8) (v : Byte) : (s.setR8 r v).ifr = s.ifr := rfl
@[simp] theorem State.setR8_ime (s : State) (r : Reg8) (v : Byte) : (s.setR8 r v).ime = s.ime := rfl
@[simp] theorem State.setR8_pendingTicks (s : State) (r : Reg8) (v : Byte) : (s.setR8 r v).pendingTicks = s.pendingTicks := rfl
@[simp] theorem State.setR8_haltBug (s : State) (r : Reg8) (v : Byte) : (s.setR8 r v).haltBug = s.haltBug := rfl
@[simp] theorem State.setR8_cpuMode (s : State) (r : Reg8) (v : Byte) : (s.setR8 r v).cpuMode = s.cpuMode := rfl
@[simp] theorem State.setR8_broken (s : State) (r : Reg8) (v : Byte) : (s.setR8 r v).broken = s.broken := rfl
@[simp] theorem State.setR8_brokenReason (s : State) (r : Reg8) (v : Byte) : (s.setR8 r v).brokenReason = s.brokenReason := rfl
@[simp] theorem State.setR8_ticksThisCall (s : State) (r : Reg8) (v : Byte) : (s.setR8 r v).ticksThisCall = s.ticksThisCall := rfl
@[simp] theorem State.setR8_fetchAddr (s : State) (r : Reg8) (v : Byte) : (s.setR8 r v).fetchAddr = s.fetchAddr := rfl
@[simp] theorem State.setR8_currentTick (s : State) (r : Reg8) (v : Byte) : (s.setR8 r v).currentTick = s.currentTick := rfl
@[simp] theorem State.setR8_events (s : State) (r : Reg8) (v : Byte) : (s.setR8 r v).events = s.events := rfl
@[simp] theorem State.setR8_nextSeq (s : State) (r : Reg8) (v : Byte) : (s.setR8 r v).nextSeq = s.nextSeq := rfl
@[simp] theorem State.setR8_doubleSpeed (s : State) (r : Reg8) (v : Byte) : (s.setR8 r v).doubleSpeed = s.doubleSpeed := rfl
@[simp] theorem State.setR8_env (s : State) (r : Reg8) (v : Byte) : (s.setR8 r v).env = s.env := rfl
@[simp] theorem State.setR8_params (s : State) (r : Reg8) (v : Byte) : (s.setR8 r v).params = s.params := rfl

@[simp] theorem State.setR16_regs (s : State) (r : Reg16) (v : Word) : (s.setR16 r v).regs = s.regs.set16 v r := rfl
@[simp] theorem State.setR16_flags (s : State) (r : Reg16) (v : Word) : (s.setR16 r v).flags = s.flags := rfl
@[simp] theorem State.setR16_ie (s : State) (r : Reg16) (v : Word) : (s.setR16 r v).ie = s.ie := rfl
@[simp] theorem State.setR16_ifr (s : State) (r : Reg16) (v : Word) : (s.setR16 r v).ifr = s.ifr := rfl
@[simp] theorem State.setR16_ime (s : State) (r : Reg16) (v : Word) : (s.setR16 r v).ime = s.ime := rfl
@[simp] theorem State.setR16_pendingTicks (s : State) (r : Reg16) (v : Word) : (s.setR16 r v).pendingTicks = s.pendingTicks := rfl
@[simp] theorem State.setR16_haltBug (s : State) (r : Reg16) (v : Word) : (s.setR16 r v).haltBug = s.haltBug := rfl
@[simp] theorem State.setR16_cpuMode (s : State) (r : Reg16) (v : Word) : (s.setR16 r v).cpuMode = s.cpuMode := rfl
@[simp] theorem State.setR16_broken (s : State) (r : Reg16) (v : Word) : (s.setR16 r v).broken = s.broken := rfl
@[simp] theorem State.setR16_brokenReason (s : State) (r : Reg16) (v : Word) : (s.setR16 r v).brokenReason = s.brokenReason := rfl
@[simp] theorem State.setR16_ticksThisCall (s : State) (r : Reg16) (v : Word) : (s.setR16 r v).ticksThisCall = s.ticksThisCall := rfl
@[simp] theorem State.setR16_fetchAddr (s : State) (r : Reg16) (v : Word) : (s.setR16 r v).fetchAddr = s.fetchAddr := rfl
@[simp] theorem State.setR16_currentTick (s : State) (r : Reg16) (v : Word) : (s.setR16 r v).currentTick = s.currentTick := rfl
@[simp] theorem State.setR16_events (s : State) (r : Reg16) (v : Word) : (s.setR16 r v).events = s.events := rfl
@[simp] theorem State.setR16_nextSeq (s : State) (r : Reg16) (v : Word) : (s.setR16 r v).nextSeq = s.nextSeq := rfl
@[simp] theorem State.setR16_doubleSpeed (s : State) (r : Reg16) (v : Word) : (s.setR16 r v).doubleSpeed = s.doubleSpeed := rfl
@[simp] theorem State.setR16_env (s : State) (r : Reg16) (v : Word) : (s.setR16 r v).env = s.env := rfl
@[simp] theorem State.setR16_params (s : State) (r : Reg16) (v : Word) : (s.setR16 r v).params = s.params := rfl

@[simp] theorem State.setPc_regs (s : State) (v : Word) : (s.setPc v).regs = { s.regs with pc := v } := rfl
@[simp] theorem State.setPc_flags (s : State) (v : Word) : (s.setPc v).flags = s.flags := rfl
@[simp] theorem State.setPc_ie (s : State) (v : Word) : (s.setPc v).ie = s.ie := rfl
@[simp] theorem State.setPc_ifr (s : State) (v : Word) : (s.setPc v).ifr = s.ifr := rfl
@[simp] theorem State.setPc_ime (s : State) (v : Word) : (s.setPc v).ime = s.ime := rfl
@[simp] theorem State.setPc_pendingTicks (s : State) (v : Word) : (s.setPc v).pendingTicks = s.pendingTicks := rfl
@[simp] theorem State.setPc_haltBug (s : State) (v : Word) : (s.setPc v).haltBug = s.haltBug := rfl
@[simp] theorem State.setPc_cpuMode (s : State) (v : Word) : (s.setPc v).cpuMode = s.cpuMode := rfl
@[simp] theorem State.setPc_broken (s : State) (v : Word) : (s.setPc v).broken = s.broken := rfl
@[simp] theorem State.setPc_brokenReason (s : State) (v : Word) : (s.setPc v).brokenReason = s.brokenReason := rfl
@[simp] theorem State.setPc_ticksThisCall (s : State) (v : Word) : (s.setPc v).ticksThisCall = s.ticksThisCall := rfl
@[simp] theorem State.setPc_fetchAddr (s : State) (v : Word) : (s.setPc v).fetchAddr = s.fetchAddr := rfl
@[simp] theorem State.setPc_currentTick (s : State) (v : Word) : (s.setPc v).currentTick = s.currentTick := rfl
@[simp] theorem State.setPc_events (s : State) (v : Word) : (s.setPc v).events = s.events := rfl
@[simp] theorem State.setPc_nextSeq (s : State) (v : Word) : (s.setPc v).nextSeq = s.nextSeq := rfl
@[simp] theorem State.setPc_doubleSpeed (s : State) (v : Word) : (s.setPc v).doubleSpeed = s.doubleSpeed := rfl
@[simp] theorem State.setPc_env (s : State) (v : Word) : (s.setPc v).env = s.env := rfl
@[simp] theorem State.setPc_params (s : State) (v : Word) : (s.setPc v).params = s.params := rfl

@[simp] theorem State.setSp_regs (s : State) (v : Word) : (s.setSp v).regs = { s.regs with sp := v } := rfl
@[simp] theorem State.setSp_flags (s : State) (v : Word) : (s.setSp v).flags = s.flags := rfl
@[simp] theorem State.setSp_ie (s : State) (v : Word) : (s.setSp v).ie = s.ie := rfl
@[simp] theorem State.setSp_ifr (s : State) (v : Word) : (s.setSp v).ifr = s.ifr := rfl
@[simp] theorem State.setSp_ime (s : State) (v : Word) : (s.setSp v).ime = s.ime := rfl
@[simp] theorem State.setSp_pendingTicks (s : State) (v : Word) : (s.setSp v).pendingTicks = s.pendingTicks := rfl
@[simp] theorem State.setSp_haltBug (s : State) (v : Word) : (s.setSp v).haltBug = s.haltBug := rfl
@[simp] theorem State.setSp_cpuMode (s : State) (v : Word) : (s.setSp v).cpuMode = s.cpuMode := rfl
@[simp] theorem State.setSp_broken (s : State) (v : Word) : (s.setSp v).broken = s.broken := rfl
@[simp] theorem State.setSp_brokenReason (s : State) (v : Word) : (s.setSp v).brokenReason = s.brokenReason := rfl
@[simp] theorem State.setSp_ticksThisCall (s : State) (v : Word) : (s.setSp v).ticksThisCall = s.ticksThisCall := rfl
@[simp] theorem State.setSp_fetchAddr (s : State) (v : Word) : (s.setSp v).fetchAddr = s.fetchAddr := rfl
@[simp] theorem State.setSp_currentTick (s : State) (v : Word) : (s.setSp v).currentTick = s.currentTick := rfl
@[simp] theorem State.setSp_events (s : State) (v : Word) : (s.setSp v).events = s.events := rfl
@[simp] theorem State.setSp_nextSeq (s : State) (v : Word) : (s.setSp v).nextSeq = s.nextSeq := rfl
@[simp] theorem State.setSp_doubleSpeed (s : State) (v : Word) : (s.setSp v).doubleSpeed = s.doubleSpeed := rfl
@[simp] theorem State.setSp_env (s : State) (v : Word) : (s.setSp v).env = s.env := rfl
@[simp] theorem State.setSp_params (s : State) (v : Word) : (s.setSp v).params = s.params := rfl

@[simp] theorem State.setFlags_regs (s : State) (f : Flags) : (s.setFlags f).regs = s.regs := rfl
@[simp] theorem State.setFlags_flags (s : State) (f : Flags) : (s.setFlags f).flags = f := rfl
@[simp] theorem State.setFlags_ie (s : State) (f : Flags) : (s.setFlags f).ie = s.ie := rfl
@[simp] theorem State.setFlags_ifr (s : State) (f : Flags) : (s.setFlags f).ifr = s.ifr := rfl
@[simp] theorem State.setFlags_ime (s : State) (f : Flags) : (s.setFlags f).ime = s.ime := rfl
@[simp] theorem State.setFlags_pendingTicks (s : State) (f : Flags) : (s.setFlags f).pendingTicks = s.pendingTicks := rfl
@[simp] theorem State.setFlags_haltBug (s : State) (f : Flags) : (s.setFlags f).haltBug = s.haltBug := rfl
@[simp] theorem State.setFlags_cpuMode (s : State) (f : Flags) : (s.setFlags f).cpuMode = s.cpuMode := rfl
@[simp] theorem State.setFlags_broken (s : State) (f : Flags) : (s.setFlags f).broken = s.broken := rfl
@[simp] theorem State.setFlags_brokenReason (s : State) (f : Flags) : (s.setFlags f).brokenReason = s.brokenReason := rfl
@[simp] theorem State.setFlags_ticksThisCall (s : State) (f : Flags) : (s.setFlags f).ticksThisCall = s.ticksThisCall := rfl
@[simp] theorem State.setFlags_fetchAddr (s : State) (f : Flags) : (s.setFlags f).fetchAddr = s.fetchAddr := rfl
@[simp] theorem State.setFlags_currentTick (s : State) (f : Flags) : (s.setFlags f).currentTick = s.currentTick := rfl
@[simp] theorem State.setFlags_events (s : State) (f : Flags) : (s.setFlags f).events = s.events := rfl
@[simp] theorem State.setFlags_nextSeq (s : State) (f : Flags) : (s.setFlags f).nextSeq = s.nextSeq := rfl
@[simp] theorem State.setFlags_doubleSpeed (s : State) (f : Flags) : (s.setFlags f).doubleSpeed = s.doubleSpeed := rfl
@[simp] theorem State.setFlags_env (s : State) (f : Flags) : (s.setFlags f).env = s.env := rfl
@[simp] theorem State.setFlags_params (s : State) (f : Flags) : (s.setFlags f).params = s.params := rfl

@[simp] theorem State.internal_regs (s : State) : (s.internal).regs = s.regs := rfl
@[simp] theorem State.internal_flags (s : State) : (s.internal).flags = s.flags := rfl
@[simp] theorem State.internal_ie (s : State) : (s.internal).ie = s.ie := rfl
@[simp] theorem State.internal_ifr (s : State) : (s.internal).ifr = s.ifr := rfl
@[simp] theorem State.internal_ime (s : State) : (s.internal).ime = s.ime := rfl
@[simp] theorem State.internal_pendingTicks (s : State) : (s.internal).pendingTicks = s.pendingTicks + 4 := rfl
@[simp] theorem State.internal_haltBug (s : State) : (s.internal).haltBug = s.haltBug := rfl
@[simp] theorem State.internal_cpuMode (s : State) : (s.internal).cpuMode = s.cpuMode := rfl
@[simp] theorem State.internal_broken (s : State) : (s.internal).broken = s.broken := rfl
@[simp] theorem State.internal_brokenReason (s : State) : (s.internal).brokenReason = s.brokenReason := rfl
@[simp] theorem State.internal_ticksThisCall (s : State) : (s.internal).ticksThisCall = s.ticksThisCall := rfl
@[simp] theorem State.internal_fetchAddr (s : State) : (s.internal).fetchAddr = s.fetchAddr := rfl
@[simp] theorem State.internal_currentTick (s : State) : (s.internal).currentTick = s.currentTick := rfl
@[simp] theorem State.internal_events (s : State) : (s.internal).events = s.events := rfl
@[simp] theorem State.internal_nextSeq (s : State) : (s.internal).nextSeq = s.nextSeq := rfl
@[simp] theorem State.internal_doubleSpeed (s : State) : (s.internal).doubleSpeed = s.doubleSpeed := rfl
@[simp] theorem State.internal_env (s : State) : (s.internal).env = s.env := rfl
@[simp] theorem State.internal_params (s : State) : (s.internal).params = s.params := rfl

@[simp] theorem State.raiseFatal_regs (s : State) (r : FatalReason) : (s.raiseFatal r).regs = s.regs := rfl
@[simp] theorem State.raiseFatal_flags (s : State) (r : FatalReason) : (s.raiseFatal r).flags = s.flags := rfl
@[simp] theorem State.raiseFatal_ie (s : State) (r : FatalReason) : (s.raiseFatal r).ie = s.ie := rfl
@[simp] theorem State.raiseFatal_ifr (s : State) (r : FatalReason) : (s.raiseFatal r).ifr = s.ifr := rfl
@[simp] theorem State.raiseFatal_ime (s : State) (r : FatalReason) : (s.raiseFatal r).ime = s.ime := rfl
@[simp] theorem State.raiseFatal_pendingTicks (s : State) (r : FatalReason) : (s.raiseFatal r).pendingTicks = s.pendingTicks := rfl
@[simp] theorem State.raiseFatal_haltBug (s : State) (r : FatalReason) : (s.raiseFatal r).haltBug = s.haltBug := rfl
@[simp] theorem State.raiseFatal_cpuMode (s : State) (r : FatalReason) : (s.raiseFatal r).cpuMode = s.cpuMode := rfl
@[simp] theorem State.raiseFatal_broken (s : State) (r : FatalReason) : (s.raiseFatal r).broken = true := rfl
@[simp] theorem State.raiseFatal_brokenReason (s : State) (r : FatalReason) : (s.raiseFatal r).brokenReason = some r := rfl
@[simp] theorem State.raiseFatal_ticksThisCall (s : State) (r : FatalReason) : (s.raiseFatal r).ticksThisCall = s.ticksThisCall := rfl
@[simp] theorem State.raiseFatal_fetchAddr (s : State) (r : FatalReason) : (s.raiseFatal r).fetchAddr = s.fetchAddr := rfl
@[simp] theorem State.raiseFatal_currentTick (s : State) (r : FatalReason) : (s.raiseFatal r).currentTick = s.currentTick := rfl
@[simp] theorem State.raiseFatal_events (s : State) (r : FatalReason) : (s.raiseFatal r).events = s.events := rfl
@[simp] theorem State.raiseFatal_nextSeq (s : State) (r : FatalReason) : (s.raiseFatal r).nextSeq = s.nextSeq := rfl
@[simp] theorem State.raiseFatal_doubleSpeed (s : State) (r : FatalReason) : (s.raiseFatal r).doubleSpeed = s.doubleSpeed := rfl
@[simp] theorem State.raiseFatal_env (s : State) (r : FatalReason) : (s.raiseFatal r).env = s.env := rfl
@[simp] theorem State.raiseFatal_params (s : State) (r : FatalReason) : (s.raiseFatal r).params = s.params := rfl

@[simp] theorem State.requestInterrupt_regs (s : State) (k : Fin 5) : (s.requestInterrupt k).regs = s.regs := rfl
@[simp] theorem State.requestInterrupt_flags (s : State) (k : Fin 5) : (s.requestInterrupt k).flags = s.flags := rfl
@[simp] theorem State.requestInterrupt_ie (s : State) (k : Fin 5) : (s.requestInterrupt k).ie = s.ie := rfl
@[simp] theorem State.requestInterrupt_ifr (s : State) (k : Fin 5) : (s.requestInterrupt k).ifr = s.ifr ||| sourceBit k.val := rfl
@[simp] theorem State.requestInterrupt_ime (s : State) (k : Fin 5) : (s.requestInterrupt k).ime = s.ime := rfl
@[simp] theorem State.requestInterrupt_pendingTicks (s : State) (k : Fin 5) : (s.requestInterrupt k).pendingTicks = s.pendingTicks := rfl
@[simp] theorem State.requestInterrupt_haltBug (s : State) (k : Fin 5) : (s.requestInterrupt k).haltBug = s.haltBug := rfl
@[simp] theorem State.requestInterrupt_cpuMode (s : State) (k : Fin 5) : (s.requestInterrupt k).cpuMode = s.cpuMode := rfl
@[simp] theorem State.requestInterrupt_broken (s : State) (k : Fin 5) : (s.requestInterrupt k).broken = s.broken := rfl
@[simp] theorem State.requestInterrupt_brokenReason (s : State) (k : Fin 5) : (s.requestInterrupt k).brokenReason = s.brokenReason := rfl
@[simp] theorem State.requestInterrupt_ticksThisCall (s : State) (k : Fin 5) : (s.requestInterrupt k).ticksThisCall = s.ticksThisCall := rfl
@[simp] theorem State.requestInterrupt_fetchAddr (s : State) (k : Fin 5) : (s.requestInterrupt k).fetchAddr = s.fetchAddr := rfl
@[simp] theorem State.requestInterrupt_currentTick (s : State) (k : Fin 5) : (s.requestInterrupt k).currentTick = s.currentTick := rfl
@[simp] theorem State.requestInterrupt_events (s : State) (k : Fin 5) : (s.requestInterrupt k).events = s.events := rfl
@[simp] theorem State.requestInterrupt_nextSeq (s : State) (k : Fin 5) : (s.requestInterrupt k).nextSeq = s.nextSeq := rfl
@[simp] theorem State.requestInterrupt_doubleSpeed (s : State) (k : Fin 5) : (s.requestInterrupt k).doubleSpeed = s.doubleSpeed := rfl
@[simp] theorem State.requestInterrupt_env (s : State) (k : Fin 5) : (s.requestInterrupt k).env = s.env := rfl
@[simp] theorem State.requestInterrupt_params (s : State) (k : Fin 5) : (s.requestInterrupt k).params = s.params := rfl

@[simp] theorem State.observe_regs (s : State) (o : Observation) : (s.observe o).regs = s.regs := rfl
@[simp] theorem State.observe_flags (s : State) (o : Observation) : (s.observe o).flags = s.flags := rfl
@[simp] theorem State.observe_ie (s : State) (o : Observation) : (s.observe o).ie = s.ie := rfl
@[simp] theorem State.observe_ifr (s : State) (o : Observation) : (s.observe o).ifr = s.ifr := rfl
@[simp] theorem State.observe_ime (s : State) (o : Observation) : (s.observe o).ime = s.ime := rfl
@[simp] theorem State.observe_pendingTicks (s : State) (o : Observation) : (s.observe o).pendingTicks = s.pendingTicks := rfl
@[simp] theorem State.observe_haltBug (s : State) (o : Observation) : (s.observe o).haltBug = s.haltBug := rfl
@[simp] theorem State.observe_cpuMode (s : State) (o : Observation) : (s.observe o).cpuMode = s.cpuMode := rfl
@[simp] theorem State.observe_broken (s : State) (o : Observation) : (s.observe o).broken = s.broken := rfl
@[simp] theorem State.observe_brokenReason (s : State) (o : Observation) : (s.observe o).brokenReason = s.brokenReason := rfl
@[simp] theorem State.observe_ticksThisCall (s : State) (o : Observation) : (s.observe o).ticksThisCall = s.ticksThisCall := rfl
@[simp] theorem State.observe_fetchAddr (s : State) (o : Observation) : (s.observe o).fetchAddr = s.fetchAddr := rfl
@[simp] theorem State.observe_currentTick (s : State) (o : Observation) : (s.observe o).currentTick = s.currentTick := rfl
@[simp] theorem State.observe_events (s : State) (o : Observation) : (s.observe o).events = s.events := rfl
@[simp] theorem State.observe_nextSeq (s : State) (o : Observation) : (s.observe o).nextSeq = s.nextSeq := rfl
@[simp] theorem State.observe_doubleSpeed (s : State) (o : Observation) : (s.observe o).doubleSpeed = s.doubleSpeed := rfl
@[simp] theorem State.observe_env (s : State) (o : Observation) : (s.observe o).env = { s.env with log := o :: s.env.log } := rfl
@[simp] theorem State.observe_params (s : State) (o : Observation) : (s.observe o).params = s.params := rfl

@[simp] theorem State.cancelEventsById_regs (s : State) (i : EventId) : (s.cancelEventsById i).regs = s.regs := rfl
@[simp] theorem State.cancelEventsById_flags (s : State) (i : EventId) : (s.cancelEventsById i).flags = s.flags := rfl
@[simp] theorem State.cancelEventsById_ie (s : State) (i : EventId) : (s.cancelEventsById i).ie = s.ie := rfl
@[simp] theorem State.cancelEventsById_ifr (s : State) (i : EventId) : (s.cancelEventsById i).ifr = s.ifr := rfl
@[simp] theorem State.cancelEventsById_ime (s : State) (i : EventId) : (s.cancelEventsById i).ime = s.ime := rfl
@[simp] theorem State.cancelEventsById_pendingTicks (s : State) (i : EventId) : (s.cancelEventsById i).pendingTicks = s.pendingTicks := rfl
@[simp] theorem State.cancelEventsById_haltBug (s : State) (i : EventId) : (s.cancelEventsById i).haltBug = s.haltBug := rfl
@[simp] theorem State.cancelEventsById_cpuMode (s : State) (i : EventId) : (s.cancelEventsById i).cpuMode = s.cpuMode := rfl
@[simp] theorem State.cancelEventsById_broken (s : State) (i : EventId) : (s.cancelEventsById i).broken = s.broken := rfl
@[simp] theorem State.cancelEventsById_brokenReason (s : State) (i : EventId) : (s.cancelEventsById i).brokenReason = s.brokenReason := rfl
@[simp] theorem State.cancelEventsById_ticksThisCall (s : State) (i : EventId) : (s.cancelEventsById i).ticksThisCall = s.ticksThisCall := rfl
@[simp] theorem State.cancelEventsById_fetchAddr (s : State) (i : EventId) : (s.cancelEventsById i).fetchAddr = s.fetchAddr := rfl
@[simp] theorem State.cancelEventsById_currentTick (s : State) (i : EventId) : (s.cancelEventsById i).currentTick = s.currentTick := rfl
@[simp] theorem State.cancelEventsById_events (s : State) (i : EventId) : (s.cancelEventsById i).events = s.events.filter (fun e => e.id != i) := rfl
@[simp] theorem State.cancelEventsById_nextSeq (s : State) (i : EventId) : (s.cancelEventsById i).nextSeq = s.nextSeq := rfl
@[simp] theorem State.cancelEventsById_doubleSpeed (s : State) (i : EventId) : (s.cancelEventsById i).doubleSpeed = s.doubleSpeed := rfl
@[simp] theorem State.cancelEventsById_env (s : State) (i : EventId) : (s.cancelEventsById i).env = s.env := rfl
@[simp] theorem State.cancelEventsById_params (s : State) (i : EventId) : (s.cancelEventsById i).params = s.params := rfl

@[simp] theorem State.beginExecute_regs (s : State) : (s.beginExecute).regs = s.regs := rfl
@[simp] theorem State.beginExecute_flags (s : State) : (s.beginExecute).flags = s.flags := rfl
@[simp] theorem State.beginExecute_ie (s : State) : (s.beginExecute).ie = s.ie := rfl
@[simp] theorem State.beginExecute_ifr (s : State) : (s.beginExecute).ifr = s.ifr := rfl
@[simp] theorem State.beginExecute_ime (s : State) : (s.beginExecute).ime = s.ime := rfl
@[simp] theorem State.beginExecute_pendingTicks (s : State) : (s.beginExecute).pendingTicks = 0 := rfl
@[simp] theorem State.beginExecute_haltBug (s : State) : (s.beginExecute).haltBug = s.haltBug := rfl
@[simp] theorem State.beginExecute_cpuMode (s : State) : (s.beginExecute).cpuMode = s.cpuMode := rfl
@[simp] theorem State.beginExecute_broken (s : State) : (s.beginExecute).broken = s.broken := rfl
@[simp] theorem State.beginExecute_brokenReason (s : State) : (s.beginExecute).brokenReason = s.brokenReason := rfl
@[simp] theorem State.beginExecute_ticksThisCall (s : State) : (s.beginExecute).ticksThisCall = 0 := rfl
@[simp] theorem State.beginExecute_fetchAddr (s : State) : (s.beginExecute).fetchAddr = s.regs.pc := rfl
@[simp] theorem State.beginExecute_currentTick (s : State) : (s.beginExecute).currentTick = s.currentTick := rfl
@[simp] theorem State.beginExecute_events (s : State) : (s.beginExecute).events = s.events := rfl
@[simp] theorem State.beginExecute_nextSeq (s : State) : (s.beginExecute).nextSeq = s.nextSeq := rfl
@[simp] theorem State.beginExecute_doubleSpeed (s : State) : (s.beginExecute).doubleSpeed = s.doubleSpeed := rfl
@[simp] theorem State.beginExecute_env (s : State) : (s.beginExecute).env = s.env := rfl
@[simp] theorem State.beginExecute_params (s : State) : (s.beginExecute).params = s.params := rfl

end Sys2Proof.Machine
end

