-- ==== Sys2Proof/Laws/Memory.lean ====
section
/-! SUPPORT. The laws of the environment's memory: reading after writing, the canonical form, and that two memories
in canonical form with the same bytes are the same list. -/

namespace Sys2Proof.Machine

theorem Memory.read_of_lt {m : Memory} {x : Nat} (h : ∀ y ∈ m, x < y.1) : Memory.read m x = Config.unlistedByte := by
  induction m with
  | nil => rfl
  | cons y m ih =>
    have := h y (by simp)
    simp only [Memory.read]
    rw [if_neg (by omega)]
    exact ih (fun z hz => h z (by simp [hz]))

theorem Memory.read_write_same (m : Memory) (x : Nat) (v : Byte) (h : Memory.wf m) : (m.write x v).read x = v := by
  obtain ⟨hp, hv⟩ := h
  induction m with
  | nil =>
    simp only [Memory.write]
    split
    · subst_vars; rfl
    · simp [Memory.read]
  | cons y m ih =>
    obtain ⟨k, w⟩ := y
    rw [List.pairwise_cons] at hp
    simp only [Memory.write]
    split
    · split
      · subst_vars
        exact Memory.read_of_lt (by
          intro z hz
          rcases List.mem_cons.1 hz with rfl | hz
          · assumption
          · have := hp.1 z hz; simp at this; omega)
      · simp [Memory.read]
    · split
      · split
        · subst_vars; exact Memory.read_of_lt (fun z hz => hp.1 z hz)
        · simp [Memory.read]
      · simp only [Memory.read]
        rw [if_neg (by assumption)]
        exact ih hp.2 (fun z hz => hv z (by simp [hz]))

theorem Memory.read_write_ne (m : Memory) {x y : Nat} (v : Byte) (h : y ≠ x) : (m.write x v).read y = m.read y := by
  induction m with
  | nil => simp only [Memory.write]; split <;> simp [Memory.read, h]
  | cons c m ih =>
    obtain ⟨k, w⟩ := c
    simp only [Memory.write]
    split
    · split <;> simp [Memory.read, h]
    · split
      · subst_vars; split <;> simp [Memory.read, h]
      · simp only [Memory.read, ih]

/-- Every key of a written memory is the written address or a key that was there. -/
theorem Memory.mem_write {m : Memory} {x : Nat} {v : Byte} {c : Host.Cell} (h : c ∈ m.write x v) :
    c ∈ m ∨ c = (x, v) ∧ v ≠ Config.unlistedByte := by
  induction m with
  | nil =>
    simp only [Memory.write] at h
    split at h <;> simp_all
  | cons y m ih =>
    obtain ⟨k, w⟩ := y
    simp only [Memory.write] at h
    split at h
    · split at h
      · exact .inl h
      · simp only [List.mem_cons] at h ⊢; tauto
    · split at h
      · split at h
        · exact .inl (by simp [h])
        · simp only [List.mem_cons] at h ⊢; tauto
      · simp only [List.mem_cons] at h ⊢
        rcases h with h | h
        · exact .inl (.inl h)
        · rcases ih h with h | h <;> tauto

/-- A write keeps the canonical form. -/
theorem Memory.wf_write {m : Memory} {x : Nat} (v : Byte) (hx : x < 65536) (h : Memory.wf m) :
    Memory.wf (m.write x v) := by
  obtain ⟨hp, hv⟩ := h
  refine ⟨?_, ?_⟩
  · induction m with
    | nil => simp only [Memory.write]; split <;> simp
    | cons y m ih =>
      obtain ⟨k, w⟩ := y
      have hp' := List.pairwise_cons.1 hp
      simp only [Memory.write]
      split
      · split
        · exact hp
        · refine List.pairwise_cons.2 ⟨?_, hp⟩
          intro z hz
          rcases List.mem_cons.1 hz with rfl | hz
          · assumption
          · have := hp'.1 z hz; simp at this; simp; omega
      · split
        · split
          · exact hp'.2
          · subst_vars; exact List.pairwise_cons.2 ⟨fun z hz => hp'.1 z hz, hp'.2⟩
        · refine List.pairwise_cons.2 ⟨?_, ih hp'.2 (fun z hz => hv z (by simp [hz]))⟩
          intro z hz
          rcases Memory.mem_write hz with hz | ⟨rfl, -⟩
          · exact hp'.1 z hz
          · simp; omega
  · intro c hc
    rcases Memory.mem_write hc with hc | ⟨rfl, h⟩
    · exact hv c hc
    · exact ⟨hx, h⟩

end Sys2Proof.Machine
end

