-- ==== Sys2Proof/Laws/Scheduler.lean ====
section
/-! SUPPORT. What the scheduler and the environment's moves can do: the parts of the state they leave alone, the
invariants they keep, and that the tick loop never stops short of its bound. -/

namespace Sys2Proof.Machine

/-! ### What is left alone -/

theorem State.SameCore.refl (s : State) : s.SameCore s := ⟨rfl, rfl, rfl, rfl, rfl, rfl, rfl, rfl, rfl⟩

theorem State.SameCore.trans {s t u : State} (h : s.SameCore t) (k : t.SameCore u) : s.SameCore u :=
  ⟨k.1.trans h.1, k.2.trans h.2, k.3.trans h.3, k.4.trans h.4, k.5.trans h.5, k.6.trans h.6, k.7.trans h.7,
   k.8.trans h.8, k.9.trans h.9⟩

/-- The clock and IME stand still too: what an act of the environment keeps beside SameCore. -/
structure State.SameClock (s t : State) : Prop where
  currentTick : t.currentTick = s.currentTick
  ticksThisCall : t.ticksThisCall = s.ticksThisCall

theorem State.SameClock.refl (s : State) : s.SameClock s := ⟨rfl, rfl⟩

theorem State.SameClock.trans {s t u : State} (h : s.SameClock t) (k : t.SameClock u) : s.SameClock u :=
  ⟨k.1.trans h.1, k.2.trans h.2⟩

theorem State.addEventRelative_sameCore (s : State) (i : EventId) (d : Nat) (c : Callback) :
    s.SameCore (s.addEventRelative i d c) := by
  unfold State.addEventRelative; split <;> exact ⟨rfl, rfl, rfl, rfl, rfl, rfl, rfl, rfl, rfl⟩

theorem State.addEventRelative_sameClock (s : State) (i : EventId) (d : Nat) (c : Callback) :
    s.SameClock (s.addEventRelative i d c) := by
  unfold State.addEventRelative; split <;> exact ⟨rfl, rfl⟩

@[simp] theorem State.addEventRelative_ime (s : State) (i : EventId) (d : Nat) (c : Callback) :
    (s.addEventRelative i d c).ime = s.ime := by
  unfold State.addEventRelative; split <;> rfl

@[simp] theorem State.addEventRelative_env (s : State) (i : EventId) (d : Nat) (c : Callback) :
    (s.addEventRelative i d c).env = s.env := by
  unfold State.addEventRelative; split <;> rfl

@[simp] theorem State.addEventRelative_ifr (s : State) (i : EventId) (d : Nat) (c : Callback) :
    (s.addEventRelative i d c).ifr = s.ifr := by
  unfold State.addEventRelative; split <;> rfl

theorem State.act_sameCore (s : State) (x : EnvAct) : s.SameCore (s.act x) := by
  cases x with
  | request k => exact ⟨rfl, rfl, rfl, rfl, rfl, rfl, rfl, rfl, rfl⟩
  | add i d t => exact s.addEventRelative_sameCore i d (.env t)
  | cancel i => exact ⟨rfl, rfl, rfl, rfl, rfl, rfl, rfl, rfl, rfl⟩
  | poke a v => simp only [State.act]; split <;> exact ⟨rfl, rfl, rfl, rfl, rfl, rfl, rfl, rfl, rfl⟩
  | arm b => exact ⟨rfl, rfl, rfl, rfl, rfl, rfl, rfl, rfl, rfl⟩

theorem State.act_sameClock (s : State) (x : EnvAct) : s.SameClock (s.act x) := by
  cases x with
  | request k => exact ⟨rfl, rfl⟩
  | add i d t => exact s.addEventRelative_sameClock i d (.env t)
  | cancel i => exact ⟨rfl, rfl⟩
  | poke a v => simp only [State.act]; split <;> exact ⟨rfl, rfl⟩
  | arm b => exact ⟨rfl, rfl⟩

@[simp] theorem State.act_ime (s : State) (x : EnvAct) : (s.act x).ime = s.ime := by
  cases x with
  | add i d t => exact s.addEventRelative_ime i d (.env t)
  | poke a v => simp only [State.act]; split <;> rfl
  | _ => rfl

/-- Induction over the acts of one move: a relation that holds of every single act, and composes, holds of all. -/
theorem State.applyActs_induction {R : State → State → Prop} (refl : ∀ s, R s s)
    (trans : ∀ {s t u}, R s t → R t u → R s u) (act : ∀ s x, R s (s.act x)) (xs : List EnvAct) :
    ∀ s : State, R s (s.applyActs xs) := by
  induction xs with
  | nil => exact fun s => refl s
  | cons x xs ih =>
    intro s
    simp only [State.applyActs]
    split
    · exact act s x
    · exact trans (act s x) (ih _)

theorem State.applyActs_sameCore (s : State) (xs : List EnvAct) : s.SameCore (s.applyActs xs) :=
  State.applyActs_induction State.SameCore.refl State.SameCore.trans State.act_sameCore xs s

theorem State.applyActs_sameClock (s : State) (xs : List EnvAct) : s.SameClock (s.applyActs xs) :=
  State.applyActs_induction State.SameClock.refl State.SameClock.trans State.act_sameClock xs s

@[simp] theorem State.applyActs_ime (s : State) (xs : List EnvAct) : (s.applyActs xs).ime = s.ime :=
  State.applyActs_induction (R := fun s t => t.ime = s.ime) (fun _ => rfl) (fun h k => k.trans h) State.act_ime xs s

/-! ### Popping an event -/

theorem leastDue_eq_none {es : List Event} : leastDue es = none ↔ es = [] := by
  cases es with
  | nil => simp [leastDue]
  | cons e es =>
    simp only [leastDue]
    split <;> simp

theorem leastDue_le {es : List Event} {d : Nat} (h : leastDue es = some d) : ∀ e ∈ es, d ≤ e.dueTick := by
  induction es generalizing d with
  | nil => simp
  | cons e es ih =>
    simp only [leastDue] at h
    split at h
    · rename_i h'
      rw [leastDue_eq_none] at h'
      subst h'; simp at h; simp [h]
    · rename_i d' h'
      have := ih h'
      simp only [Option.some.injEq] at h
      intro f hf
      rcases List.mem_cons.1 hf with rfl | hf
      · omega
      · have := this f hf; omega

theorem leastDue_mem {es : List Event} {d : Nat} (h : leastDue es = some d) : ∃ e ∈ es, e.dueTick = d := by
  induction es generalizing d with
  | nil => simp [leastDue] at h
  | cons e es ih =>
    simp only [leastDue] at h
    split at h
    · simp at h; exact ⟨e, by simp, h⟩
    · rename_i d' h'
      simp only [Option.some.injEq] at h
      obtain ⟨f, hf, hd⟩ := ih h'
      rcases Nat.le_total e.dueTick d' with hle | hle
      · exact ⟨e, by simp, by omega⟩
      · exact ⟨f, by simp [hf], by omega⟩

/-- Nothing is due: every pending event lies in the future. -/
theorem State.eventDue_eq_false {s : State} : s.eventDue = false ↔ ∀ e ∈ s.events, s.currentTick < e.dueTick := by
  unfold State.eventDue State.nextEventTick
  cases h : leastDue s.events with
  | none => rw [leastDue_eq_none] at h; simp [h]
  | some d =>
    simp only [decide_eq_false_iff_not, not_le]
    constructor
    · intro hd e he; exact lt_of_lt_of_le hd (leastDue_le h e he)
    · intro hall
      obtain ⟨e, he, rfl⟩ := leastDue_mem h
      exact hall e he

theorem State.mem_firstEvents {s : State} {e : Event} :
    e ∈ s.firstEvents ↔ e ∈ s.events ∧ s.nextEventTick = some e.dueTick := by
  unfold State.firstEvents
  split
  · simp_all
  · rename_i d h
    simp only [List.mem_filter, beq_iff_eq, h, Option.some.injEq]
    constructor <;> rintro ⟨h1, h2⟩ <;> exact ⟨h1, h2.symm⟩

theorem State.firstEvents_eq_nil {s : State} : s.firstEvents = [] ↔ s.events = [] := by
  constructor
  · intro h
    cases hd : s.nextEventTick with
    | none => exact leastDue_eq_none.1 hd
    | some d =>
      obtain ⟨e, he, rfl⟩ := leastDue_mem hd
      have : e ∈ s.firstEvents := State.mem_firstEvents.2 ⟨he, hd⟩
      rw [h] at this; simp at this
  · intro h; simp [State.firstEvents, State.nextEventTick, h, leastDue]

/-- Everything popFirstEvent can do: it fails on an empty scheduler, or removes one of the events of least due tick
and touches nothing but the events and the record of the choices made. -/
theorem State.popFirstEvent_cases (s : State) :
    (s.events = [] ∧ s.popFirstEvent = (none, s.raiseFatal .emptyHeapPop)) ∨
    ∃ e ∈ s.firstEvents, ∃ ties draws,
      s.popFirstEvent =
        (some e, { s with events := s.events.erase e, env := { s.env with ties := ties, tieDraws := draws } }) := by
  unfold State.popFirstEvent
  split
  · rename_i h
    exact .inl ⟨State.firstEvents_eq_nil.1 h, rfl⟩
  · rename_i e h
    exact .inr ⟨e, by simp [h], s.env.ties, s.env.tieDraws, rfl⟩
  · rename_i e e' es h
    right
    refine ⟨(e :: e' :: es).getD (s.drawTie.1 % (es.length + 2)) e, ?_, s.drawTie.2.env.ties,
      s.drawTie.2.env.tieDraws, ?_⟩
    · rw [h, List.getD_eq_getElem _ _ (by simpa using Nat.mod_lt _ (Nat.succ_pos (es.length + 1)))]
      exact List.getElem_mem _
    · unfold State.drawTie
      split <;> rfl

/-! ### Callbacks and the tick loop -/

/-- A relation between the state before and the state after that every move of the scheduler has. -/
structure SchedulerRelation (R : State → State → Prop) : Prop where
  refl : ∀ s, R s s
  trans : ∀ {s t u}, R s t → R t u → R s u
  act : ∀ s x, R s (s.act x)
  pop : ∀ s e ties draws, e ∈ s.events → R s
    { s with events := s.events.erase e, env := { s.env with ties := ties, tieDraws := draws } }
  fail : ∀ s, s.events = [] → R s (s.raiseFatal .emptyHeapPop)
  observe : ∀ s o, R s (s.observe o)
  enableIme : ∀ s, R s { s with ime := true }
  draw : ∀ s cs, R s { s with env := { s.env with callbacks := cs } }

theorem SchedulerRelation.runCallback {R : State → State → Prop} (h : SchedulerRelation R) (s : State) (e : Event) :
    R s (s.runCallback e) := by
  unfold State.runCallback
  simp only
  refine h.trans (h.observe s (.callback s.currentTick e.id (s.currentTick - e.dueTick))) ?_
  split
  · exact h.enableIme _
  · refine h.trans ?_ (State.applyActs_induction h.refl h.trans h.act _ _)
    unfold State.drawCallback
    split
    · exact h.refl _
    · exact h.draw _ _

theorem SchedulerRelation.runFirstEvent {R : State → State → Prop} (h : SchedulerRelation R) (s : State) :
    R s s.runFirstEvent := by
  unfold State.runFirstEvent
  rcases s.popFirstEvent_cases with ⟨he, hp⟩ | ⟨e, he, ties, draws, hp⟩ <;> rw [hp]
  · exact h.fail s he
  · exact h.trans (h.pop s e ties draws (State.mem_firstEvents.1 he).1) (h.runCallback _ e)

theorem SchedulerRelation.runDue {R : State → State → Prop} (h : SchedulerRelation R) (n : Nat) (s : State) :
    R s (runDue n s) := by
  induction n generalizing s with
  | zero => exact h.refl s
  | succ n ih =>
    simp only [Machine.runDue]
    split
    · split
      · exact h.runFirstEvent s
      · exact h.trans (h.runFirstEvent s) (ih _)
    · exact h.refl s

theorem sameCore_scheduler : SchedulerRelation State.SameCore where
  refl := State.SameCore.refl
  trans := State.SameCore.trans
  act := State.act_sameCore
  pop _ _ _ _ _ := ⟨rfl, rfl, rfl, rfl, rfl, rfl, rfl, rfl, rfl⟩
  fail _ _ := ⟨rfl, rfl, rfl, rfl, rfl, rfl, rfl, rfl, rfl⟩
  observe _ _ := ⟨rfl, rfl, rfl, rfl, rfl, rfl, rfl, rfl, rfl⟩
  enableIme _ := ⟨rfl, rfl, rfl, rfl, rfl, rfl, rfl, rfl, rfl⟩
  draw _ _ := ⟨rfl, rfl, rfl, rfl, rfl, rfl, rfl, rfl, rfl⟩

theorem sameClock_scheduler : SchedulerRelation State.SameClock where
  refl := State.SameClock.refl
  trans := State.SameClock.trans
  act := State.act_sameClock
  pop _ _ _ _ _ := ⟨rfl, rfl⟩
  fail _ _ := ⟨rfl, rfl⟩
  observe _ _ := ⟨rfl, rfl⟩
  enableIme _ := ⟨rfl, rfl⟩
  draw _ _ := ⟨rfl, rfl⟩

/-- IME once set is not cleared by the scheduler (rule R1070). -/
theorem imeKept_scheduler : SchedulerRelation (fun s t => s.ime = true → t.ime = true) where
  refl _ h := h
  trans h k x := k (h x)
  act s x h := by simpa using h
  pop _ _ _ _ _ h := h
  fail _ _ h := h
  observe _ _ h := h
  enableIme _ _ := rfl
  draw _ _ h := h

/-! ### The invariant of every moment -/

theorem State.addEventRelative_wf {s : State} (h : s.Wf) (i : EventId) (d : Nat) (c : Callback) :
    (s.addEventRelative i d c).Wf := by
  unfold State.addEventRelative
  split
  · exact ⟨h.1, h.2, h.3, h.4, h.5, h.6, rfl⟩
  · rename_i hc
    refine ⟨h.1, h.2, ?_, ?_, ?_, h.6, h.7⟩
    · simp; omega
    · simp only [List.pairwise_append]
      refine ⟨h.4, by simp, ?_⟩
      intro e he f hf
      simp only [List.mem_singleton] at hf
      subst hf
      exact h.5 e he
    · intro e he
      simp only [List.mem_append, List.mem_singleton] at he
      rcases he with he | rfl
      · have := h.5 e he; simp; omega
      · simp

theorem ifHigh_or {v w : Byte} (h : v &&& Config.ifHighBits = Config.ifHighBits) :
    (v ||| w) &&& Config.ifHighBits = Config.ifHighBits := by
  rw [← h]
  ext i hi
  simp only [BitVec.getElem_and, BitVec.getElem_or]
  cases v[i] <;> cases w[i] <;> simp

theorem State.requestInterrupt_wf {s : State} (h : s.Wf) (k : Fin 5) : (s.requestInterrupt k).Wf :=
  ⟨ifHigh_or h.1, h.2, h.3, h.4, h.5, h.6, h.7⟩

theorem State.filter_wf {s : State} (h : s.Wf) (p : Event → Bool) : ({ s with events := s.events.filter p }).Wf :=
  ⟨h.1, h.2, (List.length_filter_le p s.events).trans h.3, h.4.filter p,
   fun e he => h.5 e (List.mem_of_mem_filter he), h.6, h.7⟩

theorem State.cancelEventsById_wf {s : State} (h : s.Wf) (i : EventId) : (s.cancelEventsById i).Wf :=
  State.filter_wf h _

theorem State.act_wf {s : State} (h : s.Wf) (x : EnvAct) : (s.act x).Wf := by
  cases x with
  | request k => exact State.requestInterrupt_wf h k
  | add i d t => exact State.addEventRelative_wf h i d (.env t)
  | cancel i => exact State.cancelEventsById_wf h i
  | poke a v =>
    simp only [State.act]
    split
    · exact h
    · exact ⟨h.1, Memory.wf_write v a.isLt h.2, h.3, h.4, h.5, h.6, h.7⟩
  | arm b => exact ⟨h.1, h.2, h.3, h.4, h.5, h.6, h.7⟩

theorem wf_scheduler : SchedulerRelation (fun s t => s.Wf → t.Wf) where
  refl _ h := h
  trans h k x := k (h x)
  act _ x h := State.act_wf h x
  pop _ _ _ _ _ h :=
    ⟨h.1, h.2, (List.length_erase_le ..).trans h.3, h.4.sublist (List.erase_sublist ..),
     fun f hf => h.5 f (List.mem_of_mem_erase hf), h.6, h.7⟩
  fail _ _ h := ⟨h.1, h.2, h.3, h.4, h.5, h.6, rfl⟩
  observe _ _ h := ⟨h.1, h.2, h.3, h.4, h.5, h.6, h.7⟩
  enableIme _ h := ⟨h.1, h.2, h.3, h.4, h.5, h.6, h.7⟩
  draw _ _ h := ⟨h.1, h.2, h.3, h.4, h.5, h.6, h.7⟩

/-! ### The loop never stops short -/

theorem State.act_dueFuel (s : State) (x : EnvAct) : (s.act x).dueFuel ≤ s.dueFuel + 1 := by
  cases x with
  | add i d t =>
    simp only [State.act, State.addEventRelative]
    split
    · simp [State.dueFuel]
    · simp [State.dueFuel]; omega
  | cancel i => simp only [State.act, State.dueFuel, State.cancelEventsById]; have := List.length_filter_le (fun e => e.id != i) s.events; omega
  | poke a v => simp only [State.act]; split <;> simp [State.dueFuel]
  | _ => simp [State.act, State.dueFuel]

theorem State.applyActs_dueFuel (s : State) (xs : List EnvAct) : (s.applyActs xs).dueFuel ≤ s.dueFuel + xs.length := by
  induction xs generalizing s with
  | nil => simp [State.applyActs]
  | cons x xs ih =>
    simp only [State.applyActs, List.length_cons]
    have := s.act_dueFuel x
    split
    · omega
    · have := ih (s.act x); omega

theorem State.runCallback_dueFuel (s : State) (e : Event) : (s.runCallback e).dueFuel ≤ s.dueFuel := by
  unfold State.runCallback
  cases hc : e.callback with
  | enableIme => simp [State.dueFuel]
  | env t =>
    simp only
    refine (State.applyActs_dueFuel _ _).trans ?_
    unfold State.drawCallback
    split
    · simp [State.dueFuel]
    · rename_i xs rest h
      simp only [State.observe_env] at h
      simp [State.dueFuel, h]
      omega

/-- Each round pops one event, and what its callback adds was counted. -/
theorem State.runFirstEvent_dueFuel {s : State} (h : s.eventDue = true) : s.runFirstEvent.dueFuel < s.dueFuel := by
  unfold State.runFirstEvent
  rcases s.popFirstEvent_cases with ⟨he, -⟩ | ⟨e, he, ties, draws, hp⟩
  · simp [State.eventDue, State.nextEventTick, he, leastDue] at h
  · rw [hp]
    refine lt_of_le_of_lt (State.runCallback_dueFuel _ e) ?_
    have hm := (State.mem_firstEvents.1 he).1
    have := List.length_pos_of_mem hm
    simp [State.dueFuel, List.length_erase_of_mem hm]
    omega

/-- With the bound of State.dueFuel the loop ends because nothing is due any more, or because a fatal condition
ended the step. -/
theorem runDue_done {n : Nat} {s : State} (h : s.dueFuel ≤ n) :
    (runDue n s).broken = true ∨ (runDue n s).eventDue = false := by
  induction n generalizing s with
  | zero =>
    right
    have : s.events = [] := by
      have : s.events.length = 0 := by simp [State.dueFuel] at h; simp [h.1]
      exact List.length_eq_zero_iff.1 this
    simp [runDue, State.eventDue, State.nextEventTick, this, leastDue]
  | succ n ih =>
    simp only [runDue]
    split
    · rename_i hd
      split
      · exact .inl (by assumption)
      · have := State.runFirstEvent_dueFuel hd
        exact ih (by omega)
    · right; simp_all

/-- Every sufficient bound gives the same loop. -/
theorem runDue_fuel {m n : Nat} {s : State} (hm : s.dueFuel ≤ m) (hn : s.dueFuel ≤ n) : runDue m s = runDue n s := by
  induction m generalizing n s with
  | zero =>
    have hd : s.eventDue = false := by
      rcases runDue_done hm with h | h
      · have he : s.events = [] := List.length_eq_zero_iff.1 (by unfold State.dueFuel at hm; omega)
        exact State.eventDue_eq_false.2 (by simp [he])
      · exact h
    cases n <;> simp [runDue, hd]
  | succ m ih =>
    by_cases hd : s.eventDue = true
    · have hf := State.runFirstEvent_dueFuel hd
      obtain ⟨k, rfl⟩ : ∃ k, n = k + 1 := ⟨n - 1, by omega⟩
      simp only [runDue, hd, if_true]
      split
      · rfl
      · exact ih (by omega) (by omega)
    · cases n <;> simp [runDue, hd]

/-! ### tick -/

theorem State.tick_sameCore (s : State) (n : Nat) : s.SameCore (s.tick n) :=
  State.SameCore.trans (t := { s with currentTick := s.currentTick + n, ticksThisCall := s.ticksThisCall + n })
    ⟨rfl, rfl, rfl, rfl, rfl, rfl, rfl, rfl, rfl⟩ (sameCore_scheduler.runDue _ _)

@[simp] theorem State.tick_currentTick (s : State) (n : Nat) : (s.tick n).currentTick = s.currentTick + n :=
  (sameClock_scheduler.runDue _ _).1

@[simp] theorem State.tick_ticksThisCall (s : State) (n : Nat) : (s.tick n).ticksThisCall = s.ticksThisCall + n :=
  (sameClock_scheduler.runDue _ _).2

theorem State.tick_wf {s : State} (h : s.Wf) (n : Nat) : (s.tick n).Wf :=
  wf_scheduler.runDue _ _ ⟨h.1, h.2, h.3, h.4, h.5, h.6, h.7⟩

theorem State.tick_ime {s : State} (n : Nat) (h : s.ime = true) : (s.tick n).ime = true :=
  imeKept_scheduler.runDue _ { s with currentTick := s.currentTick + n, ticksThisCall := s.ticksThisCall + n } h

/-- After a tick that ended without a fatal condition every pending event lies in the future (rule R145). -/
theorem State.tick_future (s : State) (n : Nat) (h : (s.tick n).broken = false) :
    ∀ e ∈ (s.tick n).events, (s.tick n).currentTick < e.dueTick := by
  rw [← State.eventDue_eq_false]
  rcases runDue_done (s := { s with currentTick := s.currentTick + n, ticksThisCall := s.ticksThisCall + n })
    (Nat.le_refl _) with hb | hb
  · exact absurd h (by unfold State.tick; simp [hb])
  · exact hb

/-- A tick in which nothing falls due only advances the clock. -/
theorem State.tick_of_notDue {s : State} {n : Nat} (h : ∀ e ∈ s.events, s.currentTick + n < e.dueTick) :
    s.tick n = { s with currentTick := s.currentTick + n, ticksThisCall := s.ticksThisCall + n } := by
  have hd : State.eventDue { s with currentTick := s.currentTick + n, ticksThisCall := s.ticksThisCall + n } = false :=
    State.eventDue_eq_false.2 h
  unfold State.tick
  simp only
  cases State.dueFuel _ <;> simp [runDue, hd]

theorem State.tick_sound {s : State} (h : s.Wf) (n : Nat) : (s.tick n).Sound :=
  ⟨State.tick_wf h n, fun hb e he => Nat.le_of_lt (State.tick_future s n hb e he)⟩

end Sys2Proof.Machine
end

