-- ==== Sys2Proof/Laws/Bus.lean ====
section
/-! SUPPORT. What one bus access can do: the parts of the state it leaves alone, the invariants it keeps, and its
whole effect while the environment is quiet. -/

namespace Sys2Proof.Machine

/-! ### The environment's side of an access -/

theorem State.envRead_sameCore (s : State) (x : Word) : s.SameCore (s.envRead x).2 := by
  unfold State.envRead
  split
  · exact State.SameCore.refl s
  · rename_i r rest hr
    exact State.SameCore.trans (t := { s with env := { s.env with reads := rest } })
      ⟨rfl, rfl, rfl, rfl, rfl, rfl, rfl, rfl, rfl⟩ (State.applyActs_sameCore _ _)

theorem State.envRead_sameClock (s : State) (x : Word) : s.SameClock (s.envRead x).2 := by
  unfold State.envRead
  split
  · exact State.SameClock.refl s
  · rename_i r rest hr
    exact State.SameClock.trans (t := { s with env := { s.env with reads := rest } }) ⟨rfl, rfl⟩
      (State.applyActs_sameClock _ _)

@[simp] theorem State.envRead_ime (s : State) (x : Word) : (s.envRead x).2.ime = s.ime := by
  unfold State.envRead; split <;> simp

/-- The scheduler's events and the broken flag are the same in two states: what a read cannot change (rule R1087). -/
structure State.SameSchedule (s t : State) : Prop where
  events : t.events = s.events
  nextSeq : t.nextSeq = s.nextSeq
  broken : t.broken = s.broken
  brokenReason : t.brokenReason = s.brokenReason

theorem State.SameSchedule.refl (s : State) : s.SameSchedule s := ⟨rfl, rfl, rfl, rfl⟩

theorem State.SameSchedule.trans {s t u : State} (h : s.SameSchedule t) (k : t.SameSchedule u) : s.SameSchedule u :=
  ⟨k.1.trans h.1, k.2.trans h.2, k.3.trans h.3, k.4.trans h.4⟩

theorem State.readAct_sameSchedule (s : State) (x : ReadAct) : s.SameSchedule (s.act x.toEnvAct) := by
  cases x with
  | poke a v => simp only [ReadAct.toEnvAct, State.act]; split <;> exact ⟨rfl, rfl, rfl, rfl⟩
  | _ => exact ⟨rfl, rfl, rfl, rfl⟩

theorem State.readActs_sameSchedule (xs : List ReadAct) :
    ∀ s : State, s.SameSchedule (s.applyActs (xs.map ReadAct.toEnvAct)) := by
  induction xs with
  | nil => exact State.SameSchedule.refl
  | cons x xs ih =>
    intro s
    have h := s.readAct_sameSchedule x
    simp only [List.map_cons, State.applyActs]
    split
    · exact h
    · exact h.trans (ih _)

/-- An answer to a read adds and cancels no event and raises no fatal condition. -/
theorem State.envRead_sameSchedule (s : State) (x : Word) : s.SameSchedule (s.envRead x).2 := by
  unfold State.envRead
  split
  · exact State.SameSchedule.refl s
  · rename_i r rest hr
    exact State.SameSchedule.trans (t := { s with env := { s.env with reads := rest } }) ⟨rfl, rfl, rfl, rfl⟩
      (State.readActs_sameSchedule r.acts _)

theorem State.envWrite_sameCore (s : State) (x : Word) (v : Byte) : s.SameCore (s.envWrite x v) := by
  unfold State.envWrite
  split
  · exact ⟨rfl, rfl, rfl, rfl, rfl, rfl, rfl, rfl, rfl⟩
  · rename_i w rest hr
    exact State.SameCore.trans (t := { s with env := { s.env with mem := if w.store then s.env.mem.write x.toNat v else s.env.mem, writes := rest } })
      ⟨rfl, rfl, rfl, rfl, rfl, rfl, rfl, rfl, rfl⟩ (State.applyActs_sameCore _ _)

theorem State.envWrite_sameClock (s : State) (x : Word) (v : Byte) : s.SameClock (s.envWrite x v) := by
  unfold State.envWrite
  split
  · exact ⟨rfl, rfl⟩
  · rename_i w rest hr
    exact State.SameClock.trans (t := { s with env := { s.env with mem := if w.store then s.env.mem.write x.toNat v else s.env.mem, writes := rest } }) ⟨rfl, rfl⟩
      (State.applyActs_sameClock _ _)

@[simp] theorem State.envWrite_ime (s : State) (x : Word) (v : Byte) : (s.envWrite x v).ime = s.ime := by
  unfold State.envWrite; split <;> simp

/-- Outside the tick loop an act keeps every pending event out of the past: an added one is due now or later. -/
theorem State.act_sound {s : State} (h : s.Sound) (x : EnvAct) : (s.act x).Sound := by
  refine ⟨State.act_wf h.toWf x, ?_⟩
  cases x with
  | request k => exact h.notOverdue
  | add i d t =>
    simp only [State.act, State.addEventRelative]
    split
    · simp
    · intro hb e he
      simp only [List.mem_append, List.mem_singleton] at he
      rcases he with he | rfl
      · exact h.notOverdue hb e he
      · simp
  | cancel i =>
    intro hb e he
    exact h.notOverdue hb e (List.mem_of_mem_filter he)
  | poke a v =>
    simp only [State.act]
    split <;> exact h.notOverdue
  | arm b => exact h.notOverdue

theorem State.applyActs_sound {s : State} (h : s.Sound) (xs : List EnvAct) : (s.applyActs xs).Sound :=
  State.applyActs_induction (R := fun s t => s.Sound → t.Sound) (fun _ h => h) (fun h k x => k (h x))
    (fun _ x h => State.act_sound h x) xs s h

/-- Sound reads nothing but these fields. -/
theorem State.Sound.congr {s t : State} (h : s.Sound) (hi : t.ifr = s.ifr) (hm : t.env.mem = s.env.mem)
    (he : t.events = s.events) (hn : t.nextSeq = s.nextSeq) (hp : t.params = s.params) (hb : t.broken = s.broken)
    (hr : t.brokenReason = s.brokenReason) (hc : t.currentTick = s.currentTick) : t.Sound := by
  obtain ⟨⟨h1, h2, h3, h4, h5, h6, h7⟩, h8⟩ := h
  exact ⟨⟨hi ▸ h1, hm ▸ h2, he ▸ h3, he ▸ h4, he ▸ hn ▸ h5, hp ▸ h6, hb.trans (h7.trans (hr ▸ rfl))⟩,
    fun x => he ▸ hc ▸ h8 (hb ▸ x)⟩

theorem State.Sound.withEnv {s : State} (h : s.Sound) {e : Environment} (he : Memory.wf e.mem) :
    ({ s with env := e }).Sound :=
  ⟨⟨h.1.1, he, h.1.3, h.1.4, h.1.5, h.1.6, h.1.7⟩, h.2⟩

theorem State.envRead_sound {s : State} (h : s.Sound) (x : Word) : (s.envRead x).2.Sound := by
  unfold State.envRead
  split
  · exact h
  · rename_i r rest hr
    exact State.applyActs_sound (h.withEnv (e := { s.env with reads := rest }) h.memory) _

theorem State.envWrite_sound {s : State} (h : s.Sound) (x : Word) (v : Byte) : (s.envWrite x v).Sound := by
  have hw := Memory.wf_write v x.isLt h.memory
  unfold State.envWrite
  split
  · exact h.withEnv hw
  · rename_i w rest hr
    refine State.applyActs_sound (h.withEnv (e := { s.env with mem := if w.store then s.env.mem.write x.toNat v else s.env.mem, writes := rest }) ?_) _
    simp only
    split
    · exact hw
    · exact h.memory

/-! ### A bus access after its ticks -/

theorem State.busRead_sameCore (s : State) (x : Word) : s.SameCore (s.busRead x).2 := by
  unfold State.busRead
  simp only
  split
  · exact ⟨rfl, rfl, rfl, rfl, rfl, rfl, rfl, rfl, rfl⟩
  · split
    · exact ⟨rfl, rfl, rfl, rfl, rfl, rfl, rfl, rfl, rfl⟩
    · have h := s.envRead_sameCore x
      exact ⟨h.1, h.2, h.3, h.4, h.5, h.6, h.7, h.8, h.9⟩

theorem State.busRead_sameClock (s : State) (x : Word) : s.SameClock (s.busRead x).2 := by
  unfold State.busRead
  simp only
  split
  · exact ⟨rfl, rfl⟩
  · split
    · exact ⟨rfl, rfl⟩
    · have h := s.envRead_sameClock x
      exact ⟨h.1, h.2⟩

@[simp] theorem State.busRead_ime (s : State) (x : Word) : (s.busRead x).2.ime = s.ime := by
  unfold State.busRead
  simp only
  split
  · rfl
  · split
    · rfl
    · simp

theorem State.busRead_sameSchedule (s : State) (x : Word) : s.SameSchedule (s.busRead x).2 := by
  unfold State.busRead
  simp only
  split
  · exact ⟨rfl, rfl, rfl, rfl⟩
  · split
    · exact ⟨rfl, rfl, rfl, rfl⟩
    · have h := s.envRead_sameSchedule x
      exact ⟨h.1, h.2, h.3, h.4⟩

theorem State.busRead_sound {s : State} (h : s.Sound) (x : Word) : (s.busRead x).2.Sound := by
  have keep : ∀ {t : State} (o : Observation), t.Sound → (t.observe o).Sound := fun _ h =>
    ⟨⟨h.1.1, h.1.2, h.1.3, h.1.4, h.1.5, h.1.6, h.1.7⟩, h.2⟩
  unfold State.busRead
  simp only
  split
  · exact keep _ h
  · split
    · exact keep _ h
    · exact keep _ (State.envRead_sound h x)

/-- A write changes nothing outside the environment's reach but IE, and that only at 0xFFFF. -/
theorem State.busWrite_sameCore (s : State) (x : Word) (v : Byte) :
    ({ s with ie := if x = Config.ieAddr then v else s.ie }).SameCore (s.busWrite x v) := by
  have hne : Config.ifAddr ≠ Config.ieAddr := by decide
  unfold State.busWrite
  by_cases h1 : x = Config.ifAddr
  · subst h1
    simp only [if_true, if_neg hne]
    exact ⟨rfl, rfl, rfl, rfl, rfl, rfl, rfl, rfl, rfl⟩
  · by_cases h2 : x = Config.ieAddr
    · subst h2
      simp only [if_true, if_neg hne.symm]
      exact ⟨rfl, rfl, rfl, rfl, rfl, rfl, rfl, rfl, rfl⟩
    · simp only [if_neg h1, if_neg h2]
      have h := (s.observe (.write s.currentTick x v)).envWrite_sameCore x v
      exact ⟨h.1, h.2, h.3, h.4, h.5, h.6, h.7, h.8, h.9⟩

theorem State.busWrite_sameClock (s : State) (x : Word) (v : Byte) : s.SameClock (s.busWrite x v) := by
  unfold State.busWrite
  simp only
  split
  · exact ⟨rfl, rfl⟩
  · split
    · exact ⟨rfl, rfl⟩
    · have h := (s.observe (.write s.currentTick x v)).envWrite_sameClock x v
      exact ⟨h.1, h.2⟩

@[simp] theorem State.busWrite_ime (s : State) (x : Word) (v : Byte) : (s.busWrite x v).ime = s.ime := by
  unfold State.busWrite
  simp only
  split
  · rfl
  · split
    · rfl
    · simp

theorem ifHigh_forced (v : Byte) : (v ||| Config.ifHighBits) &&& Config.ifHighBits = Config.ifHighBits := by
  ext i hi
  simp only [BitVec.getElem_and, BitVec.getElem_or]
  cases v[i] <;> cases Config.ifHighBits[i] <;> rfl

/-- Clearing a request bit leaves bits 5..7 of IF set. -/
theorem ifHigh_cleared {v : Byte} {k : Nat} (hk : k < 5) (h : v &&& Config.ifHighBits = Config.ifHighBits) :
    (v &&& ~~~ sourceBit k) &&& Config.ifHighBits = Config.ifHighBits := by
  have hm : ~~~ sourceBit k &&& Config.ifHighBits = Config.ifHighBits := by
    revert k; decide
  rw [BitVec.and_assoc, hm, h]

theorem State.busWrite_sound {s : State} (h : s.Sound) (x : Word) (v : Byte) : (s.busWrite x v).Sound := by
  unfold State.busWrite
  simp only
  split
  · exact ⟨⟨ifHigh_forced v, h.1.2, h.1.3, h.1.4, h.1.5, h.1.6, h.1.7⟩, h.2⟩
  · split
    · exact ⟨⟨h.1.1, h.1.2, h.1.3, h.1.4, h.1.5, h.1.6, h.1.7⟩, h.2⟩
    · exact State.envWrite_sound (h.withEnv (e := { s.env with log := _ :: s.env.log }) h.memory) x v

/-! ### A whole bus access -/

theorem State.memRead_of_live {s : State} (h : (s.tick 4).broken = false) (x : Word) :
    s.memRead x = (s.tick 4).busRead x := by
  simp [State.memRead, Config.ticksPerAccess, h]

theorem State.memRead_of_broken {s : State} (h : (s.tick 4).broken = true) (x : Word) :
    s.memRead x = (0x00#8, s.tick 4) := by
  simp [State.memRead, Config.ticksPerAccess, h]

theorem State.memWrite_of_live {s : State} (h : (s.tick 4).broken = false) (x : Word) (v : Byte) :
    s.memWrite x v = (s.tick 4).busWrite x v := by
  simp [State.memWrite, Config.ticksPerAccess, h]

theorem State.memWrite_of_broken {s : State} (h : (s.tick 4).broken = true) (x : Word) (v : Byte) :
    s.memWrite x v = s.tick 4 := by
  simp [State.memWrite, Config.ticksPerAccess, h]

/-- The bus contract of a read (rules R210, R1068): it leaves alone everything out of the environment's reach. -/
theorem State.memRead_sameCore (s : State) (x : Word) : s.SameCore (s.memRead x).2 := by
  unfold State.memRead
  simp only
  split
  · exact s.tick_sameCore _
  · exact (s.tick_sameCore _).trans (State.busRead_sameCore _ x)

@[simp] theorem State.memRead_currentTick (s : State) (x : Word) : (s.memRead x).2.currentTick = s.currentTick + 4 := by
  unfold State.memRead
  simp only
  split
  · exact s.tick_currentTick _
  · exact (State.busRead_sameClock _ x).1.trans (s.tick_currentTick _)

@[simp] theorem State.memRead_ticksThisCall (s : State) (x : Word) :
    (s.memRead x).2.ticksThisCall = s.ticksThisCall + 4 := by
  unfold State.memRead
  simp only
  split
  · exact s.tick_ticksThisCall _
  · exact (State.busRead_sameClock _ x).2.trans (s.tick_ticksThisCall _)

theorem State.memRead_sound {s : State} (h : s.Wf) (x : Word) : (s.memRead x).2.Sound := by
  unfold State.memRead
  simp only
  split
  · exact State.tick_sound h _
  · exact State.busRead_sound (State.tick_sound h _) x

theorem State.memWrite_sameCore (s : State) (x : Word) (v : Byte) :
    ({ s with ie := if x = Config.ieAddr ∧ (s.tick 4).broken = false then v else s.ie }).SameCore (s.memWrite x v) := by
  have ht := s.tick_sameCore 4
  by_cases hb : (s.tick 4).broken = true
  · rw [State.memWrite_of_broken hb, if_neg (by simp [hb])]
    exact ⟨ht.1, ht.2, ht.3, ht.4, ht.5, ht.6, ht.7, ht.8, ht.9⟩
  · simp only [Bool.not_eq_true] at hb
    rw [State.memWrite_of_live hb]
    have h := State.busWrite_sameCore (s.tick 4) x v
    exact ⟨h.1.trans ht.1, h.2.trans ht.2, h.3.trans (by simp [hb, ht.3]), h.4.trans ht.4, h.5.trans ht.5,
      h.6.trans ht.6, h.7.trans ht.7, h.8.trans ht.8, h.9.trans ht.9⟩

@[simp] theorem State.memWrite_currentTick (s : State) (x : Word) (v : Byte) :
    (s.memWrite x v).currentTick = s.currentTick + 4 := by
  unfold State.memWrite
  simp only
  split
  · exact s.tick_currentTick _
  · exact (State.busWrite_sameClock _ x v).1.trans (s.tick_currentTick _)

@[simp] theorem State.memWrite_ticksThisCall (s : State) (x : Word) (v : Byte) :
    (s.memWrite x v).ticksThisCall = s.ticksThisCall + 4 := by
  unfold State.memWrite
  simp only
  split
  · exact s.tick_ticksThisCall _
  · exact (State.busWrite_sameClock _ x v).2.trans (s.tick_ticksThisCall _)

theorem State.memWrite_sound {s : State} (h : s.Wf) (x : Word) (v : Byte) : (s.memWrite x v).Sound := by
  unfold State.memWrite
  simp only
  split
  · exact State.tick_sound h _
  · exact State.busWrite_sound (State.tick_sound h _) x v

/-- A bus read does to the scheduler what its four ticks do: only they can end in a fatal condition. -/
theorem State.memRead_sameSchedule (s : State) (x : Word) : (s.tick 4).SameSchedule (s.memRead x).2 := by
  by_cases hb : (s.tick 4).broken = true
  · rw [State.memRead_of_broken hb]
    exact State.SameSchedule.refl _
  · rw [State.memRead_of_live (by simpa using hb)]
    exact State.busRead_sameSchedule _ x

@[simp] theorem State.memRead_regs (s : State) (x : Word) : (s.memRead x).2.regs = s.regs := (s.memRead_sameCore x).1

@[simp] theorem State.memRead_flags (s : State) (x : Word) : (s.memRead x).2.flags = s.flags := (s.memRead_sameCore x).2

@[simp] theorem State.memRead_pendingTicks (s : State) (x : Word) :
    (s.memRead x).2.pendingTicks = s.pendingTicks := (s.memRead_sameCore x).4

@[simp] theorem State.memRead_cpuMode (s : State) (x : Word) : (s.memRead x).2.cpuMode = s.cpuMode :=
  (s.memRead_sameCore x).6

@[simp] theorem State.memRead_doubleSpeed (s : State) (x : Word) : (s.memRead x).2.doubleSpeed = s.doubleSpeed :=
  (s.memRead_sameCore x).8

@[simp] theorem State.memRead_params (s : State) (x : Word) : (s.memRead x).2.params = s.params :=
  (s.memRead_sameCore x).9

@[simp] theorem State.memRead_haltBug (s : State) (x : Word) : (s.memRead x).2.haltBug = s.haltBug :=
  (s.memRead_sameCore x).5

@[simp] theorem State.memRead_hl (s : State) (x : Word) : (s.memRead x).2.hl = s.hl := by
  simp [State.hl, State.r16]

@[simp] theorem State.memWrite_regs (s : State) (x : Word) (v : Byte) : (s.memWrite x v).regs = s.regs :=
  (s.memWrite_sameCore x v).1

@[simp] theorem State.memWrite_flags (s : State) (x : Word) (v : Byte) : (s.memWrite x v).flags = s.flags :=
  (s.memWrite_sameCore x v).2

@[simp] theorem State.memWrite_pendingTicks (s : State) (x : Word) (v : Byte) :
    (s.memWrite x v).pendingTicks = s.pendingTicks := (s.memWrite_sameCore x v).4

@[simp] theorem State.memWrite_haltBug (s : State) (x : Word) (v : Byte) : (s.memWrite x v).haltBug = s.haltBug :=
  (s.memWrite_sameCore x v).5

@[simp] theorem State.memWrite_cpuMode (s : State) (x : Word) (v : Byte) : (s.memWrite x v).cpuMode = s.cpuMode :=
  (s.memWrite_sameCore x v).6

@[simp] theorem State.memWrite_doubleSpeed (s : State) (x : Word) (v : Byte) :
    (s.memWrite x v).doubleSpeed = s.doubleSpeed := (s.memWrite_sameCore x v).8

@[simp] theorem State.memWrite_params (s : State) (x : Word) (v : Byte) : (s.memWrite x v).params = s.params :=
  (s.memWrite_sameCore x v).9

@[simp] theorem State.memWrite_hl (s : State) (x : Word) (v : Byte) : (s.memWrite x v).hl = s.hl := by
  simp [State.hl, State.r16]

/-! ### Quiet time -/

theorem State.Quiet.mono {m n : Nat} {s : State} (h : s.Quiet n) (hmn : m ≤ n) : s.Quiet m :=
  ⟨h.1, h.2, h.3, fun e he => by have := h.4 e he; omega⟩

theorem State.Quiet.tick {m n : Nat} {s : State} (h : s.Quiet (m + n)) :
    s.tick n = { s with currentTick := s.currentTick + n, ticksThisCall := s.ticksThisCall + n } :=
  State.tick_of_notDue (fun e he => by have := h.4 e he; omega)

theorem State.envRead_plain {s : State} (h : s.env.reads = []) (x : Word) :
    s.envRead x = (s.env.mem.read x.toNat, s) := by
  unfold State.envRead
  split
  · rfl
  · simp_all

theorem State.envWrite_plain {s : State} (h : s.env.writes = []) (x : Word) (v : Byte) :
    s.envWrite x v = { s with env := { s.env with mem := s.env.mem.write x.toNat v } } := by
  unfold State.envWrite
  split
  · rfl
  · simp_all

theorem State.Quiet.tick_live {m n : Nat} {s : State} (h : s.Quiet (m + n)) : (s.tick n).broken = false := by
  rw [h.tick]; exact h.live

/-- Where the environment has no move lined up, a read answers what the bus shows. -/
theorem State.busRead_plain {s : State} (h : s.env.reads = []) (x : Word) :
    s.busRead x = (s.peek x, s.observe (.read s.currentTick x (s.peek x))) := by
  unfold State.busRead State.peek
  simp only [State.envRead_plain h]
  split
  · rfl
  · split <;> rfl

theorem State.busWrite_plain {s : State} (h : s.env.writes = []) (x : Word) (v : Byte) :
    s.busWrite x v =
      { s with
        ifr := if x = Config.ifAddr then v ||| Config.ifHighBits else s.ifr,
        ie := if x = Config.ieAddr then v else s.ie,
        env := { s.env with
          mem := if coreOwned x then s.env.mem else s.env.mem.write x.toNat v,
          log := .write s.currentTick x v :: s.env.log } } := by
  have hne : Config.ifAddr ≠ Config.ieAddr := by decide
  have he : (s.observe (.write s.currentTick x v)).env.writes = [] := h
  unfold State.busWrite
  simp only [State.envWrite_plain he]
  by_cases h1 : x = Config.ifAddr
  · subst h1
    simp only [if_true, coreOwned, beq_self_eq_true, Bool.true_or, if_neg hne]
    rfl
  · by_cases h2 : x = Config.ieAddr
    · subst h2
      simp only [if_true, coreOwned, beq_self_eq_true, Bool.or_true, if_neg hne.symm]
      rfl
    · simp only [if_neg h1, if_neg h2, coreOwned, beq_eq_false_iff_ne.2 h1, beq_eq_false_iff_ne.2 h2, Bool.or_self,
        Bool.false_eq_true, if_false]
      rfl

/-- A read in quiet time answers what the bus shows, and takes four ticks (rules R210, R241). -/
theorem State.Quiet.memRead {n : Nat} {s : State} (h : s.Quiet (n + 4)) (x : Word) :
    s.memRead x = (s.peek x,
      { s with
        currentTick := s.currentTick + 4, ticksThisCall := s.ticksThisCall + 4,
        env := { s.env with log := .read (s.currentTick + 4) x (s.peek x) :: s.env.log } }) := by
  rw [State.memRead_of_live h.tick_live, h.tick]
  exact State.busRead_plain
    (s := { s with currentTick := s.currentTick + 4, ticksThisCall := s.ticksThisCall + 4 }) h.noReads x

/-- A write in quiet time takes four ticks and lands in IF, in IE or in the environment's memory (R211, R241). -/
theorem State.Quiet.memWrite {n : Nat} {s : State} (h : s.Quiet (n + 4)) (x : Word) (v : Byte) :
    s.memWrite x v =
      { s with
        currentTick := s.currentTick + 4, ticksThisCall := s.ticksThisCall + 4,
        ifr := if x = Config.ifAddr then v ||| Config.ifHighBits else s.ifr,
        ie := if x = Config.ieAddr then v else s.ie,
        env := { s.env with
          mem := if coreOwned x then s.env.mem else s.env.mem.write x.toNat v,
          log := .write (s.currentTick + 4) x v :: s.env.log } } := by
  rw [State.memWrite_of_live h.tick_live, h.tick]
  exact State.busWrite_plain
    (s := { s with currentTick := s.currentTick + 4, ticksThisCall := s.ticksThisCall + 4 }) h.noWrites x v

theorem State.Quiet.after_memRead {n : Nat} {s : State} (h : s.Quiet (n + 4)) (x : Word) :
    (s.memRead x).2.Quiet n := by
  rw [h.memRead x]
  exact ⟨h.1, h.2, h.3, fun e he => by have := h.4 e he; simp; omega⟩

theorem State.Quiet.after_memWrite {n : Nat} {s : State} (h : s.Quiet (n + 4)) (x : Word) (v : Byte) :
    (s.memWrite x v).Quiet n := by
  rw [h.memWrite x v]
  exact ⟨h.1, h.2, h.3, fun e he => by have := h.4 e he; simp; omega⟩

/-- Reading never changes what the bus shows. -/
theorem State.Quiet.peek_memRead {n : Nat} {s : State} (h : s.Quiet (n + 4)) (x y : Word) :
    (s.memRead x).2.peek y = s.peek y := by
  rw [h.memRead x]; rfl

/-- A write changes what the bus shows at its own address only. -/
theorem State.Quiet.peek_memWrite_ne {n : Nat} {s : State} (h : s.Quiet (n + 4)) {x y : Word} (v : Byte)
    (hxy : y ≠ x) : (s.memWrite x v).peek y = s.peek y := by
  have hn : y.toNat ≠ x.toNat := fun hh => hxy (BitVec.eq_of_toNat_eq hh)
  rw [h.memWrite x v]
  unfold State.peek
  simp only
  split
  · rename_i h1; subst h1; rw [if_neg (fun hh => hxy hh.symm)]
  · split
    · rename_i h2; subst h2; rw [if_neg (fun hh => hxy hh.symm)]
    · split
      · rfl
      · exact Memory.read_write_ne _ v hn

/-- A write shows at its own address; IF shows its high bits as 1. -/
theorem State.Quiet.peek_memWrite_same {n : Nat} {s : State} (h : s.Quiet (n + 4)) (hm : Memory.wf s.env.mem)
    (x : Word) (v : Byte) :
    (s.memWrite x v).peek x = if x = Config.ifAddr then v ||| Config.ifHighBits else v := by
  rw [h.memWrite x v]
  unfold State.peek
  simp only
  split
  · rfl
  · split
    · rfl
    · rename_i h1 h2
      simp [coreOwned, h1, h2, Memory.read_write_same _ _ _ hm]

end Sys2Proof.Machine
end

