-- ==== Sys2Proof/Laws/Ops.lean ====
section
/-! SUPPORT. The shared operations that go on with a continuation: what each answers when no fatal condition ends
it, and one way to carry a property of the state through all of them. -/

namespace Sys2Proof.Machine

/-! ### One equation per operation, for the case that goes on -/

theorem tickThen_live {s : State} {n : Nat} (h : (s.tick n).broken = false) (k : State → Result) :
    tickThen n k s = k (s.tick n) := by
  simp [tickThen, h]

theorem readThen_live {s : State} {x : Word} (h : (s.memRead x).2.broken = false) (k : Byte → State → Result) :
    readThen x k s = k (s.memRead x).1 (s.memRead x).2 := by
  simp [readThen, h]

theorem readThen_broken {s : State} {x : Word} (h : (s.memRead x).2.broken = true) (k : Byte → State → Result) :
    readThen x k s = .next (s.memRead x).2 := by
  simp [readThen, h]

theorem writeThen_live {s : State} {x : Word} {v : Byte} (h : (s.memWrite x v).broken = false) (k : State → Result) :
    writeThen x v k s = k (s.memWrite x v) := by
  simp [writeThen, h]

theorem writeThen_broken {s : State} {x : Word} {v : Byte} (h : (s.memWrite x v).broken = true)
    (k : State → Result) : writeThen x v k s = .next (s.memWrite x v) := by
  simp [writeThen, h]

/-- A last write answers the state after it, whether or not a fatal condition came of it. -/
@[simp] theorem writeThen_next (s : State) (x : Word) (v : Byte) :
    writeThen x v .next s = .next (s.memWrite x v) := by
  simp [writeThen]

theorem tickThen_quiet {m n : Nat} {s : State} (h : s.Quiet (m + n)) (k : State → Result) :
    tickThen n k s = k { s with currentTick := s.currentTick + n, ticksThisCall := s.ticksThisCall + n } := by
  rw [tickThen_live h.tick_live, h.tick]

theorem readThen_quiet {n : Nat} {s : State} (h : s.Quiet (n + 4)) (x : Word) (k : Byte → State → Result) :
    readThen x k s = k (s.peek x) (s.memRead x).2 := by
  rw [readThen_live (h.after_memRead x).live, h.memRead]

theorem writeThen_quiet {n : Nat} {s : State} (h : s.Quiet (n + 4)) (x : Word) (v : Byte) (k : State → Result) :
    writeThen x v k s = k (s.memWrite x v) :=
  writeThen_live (h.after_memWrite x v).live k

/-! ### Carrying a property through the operations -/

/-- If an answer is a next state, the state has the property. -/
def Result.Ends (P : State → Prop) : Result → Prop
  | .next t => P t
  | .fault _ => True
  | .refused _ => True

@[simp] theorem Result.ends_next (P : State → Prop) (t : State) : Result.Ends P (.next t) ↔ P t := Iff.rfl

theorem Result.Ends.mono {P Q : State → Prop} {r : Result} (h : r.Ends P) (hpq : ∀ t, P t → Q t) : r.Ends Q := by
  cases r with
  | next t => exact hpq t h
  | fault _ => trivial
  | refused _ => trivial

theorem Result.ends_iff {P : State → Prop} {r : Result} : r.Ends P ↔ ∀ t, r = .next t → P t := by
  cases r with
  | next t => simp
  | fault f => simp [Result.Ends]
  | refused f => simp [Result.Ends]

/-- The state an operation hands on has M; a state a fatal condition ended in has F. -/
def Carries (M F : State → Prop) (t : State) : Prop := (t.broken = true ∧ F t) ∨ (t.broken = false ∧ M t)

/-- A property M of the states inside a step and a property F of the states a step may end in: what a state with M
has to keep through the bus accesses and the ticks. -/
structure AccessInvariant (M F : State → Prop) : Prop where
  final : ∀ {s}, M s → F s
  tick : ∀ {s} n, M s → M (s.tick n)
  read : ∀ {s} x, M s → M (s.memRead x).2
  write : ∀ {s} x v, M s → M (s.memWrite x v)
  regs : ∀ {s} g, M s → M { s with regs := g }

/-- What dispatch needs besides. -/
structure OpInvariant (M F : State → Prop) : Prop extends AccessInvariant M F where
  ime : ∀ {s} b, M s → M { s with ime := b }
  clear : ∀ {s} k, k < 5 → M s → M { s with ifr := s.ifr &&& ~~~ sourceBit k }

/-- What the instructions that are neither HALT nor STOP nor DI need besides; those that write flags also need the
property to be kept by that (PlainInvariant.exec). -/
structure PlainInvariant (M F : State → Prop) : Prop extends AccessInvariant M F where
  pending : ∀ {s} n, M s → M { s with pendingTicks := n }
  imeOn : ∀ {s}, M s → M { s with ime := true }
  fatal : ∀ {s} r, M s → F (s.raiseFatal r)
  schedule : ∀ {s} i d c, M s → Carries M F (s.addEventRelative i d c)

variable {M F : State → Prop}

theorem AccessInvariant.carries (h : AccessInvariant M F) {s : State} (hs : M s) : Carries M F s := by
  cases hb : s.broken with
  | true => exact .inl ⟨hb, h.final hs⟩
  | false => exact .inr ⟨hb, hs⟩

theorem AccessInvariant.ofCarries (h : AccessInvariant M F) {s : State} (hs : Carries M F s) : F s := by
  rcases hs with ⟨-, hf⟩ | ⟨-, hm⟩
  · exact hf
  · exact h.final hm

theorem AccessInvariant.tickThen (h : AccessInvariant M F) {s : State} (hs : M s) (n : Nat) {k : State → Result}
    (hk : ∀ t, M t → (k t).Ends (Carries M F)) : (tickThen n k s).Ends (Carries M F) := by
  unfold Machine.tickThen
  simp only
  split
  · exact h.carries (h.tick n hs)
  · exact hk _ (h.tick n hs)

theorem AccessInvariant.readThen (h : AccessInvariant M F) {s : State} (hs : M s) (x : Word) {k : Byte → State → Result}
    (hk : ∀ v t, M t → (k v t).Ends (Carries M F)) : (readThen x k s).Ends (Carries M F) := by
  unfold Machine.readThen
  simp only
  split
  · exact h.carries (h.read x hs)
  · exact hk _ _ (h.read x hs)

theorem AccessInvariant.writeThen (h : AccessInvariant M F) {s : State} (hs : M s) (x : Word) (v : Byte)
    {k : State → Result} (hk : ∀ t, M t → (k t).Ends (Carries M F)) : (writeThen x v k s).Ends (Carries M F) := by
  unfold Machine.writeThen
  simp only
  split
  · exact h.carries (h.write x v hs)
  · exact hk _ (h.write x v hs)

theorem AccessInvariant.push8Then (h : AccessInvariant M F) {s : State} (hs : M s) (v : Byte) {k : State → Result}
    (hk : ∀ t, M t → (k t).Ends (Carries M F)) : (push8Then v k s).Ends (Carries M F) :=
  h.writeThen (h.regs _ hs) _ v hk

theorem AccessInvariant.pop8Then (h : AccessInvariant M F) {s : State} (hs : M s) {k : Byte → State → Result}
    (hk : ∀ v t, M t → (k v t).Ends (Carries M F)) : (pop8Then k s).Ends (Carries M F) :=
  h.readThen hs _ (fun v _ ht => hk v _ (h.regs _ ht))

theorem AccessInvariant.push16Then (h : AccessInvariant M F) {s : State} (hs : M s) (v : Word) {k : State → Result}
    (hk : ∀ t, M t → (k t).Ends (Carries M F)) : (push16Then v k s).Ends (Carries M F) :=
  h.push8Then hs _ (fun _ ht => h.push8Then ht _ hk)

theorem AccessInvariant.pop16Then (h : AccessInvariant M F) {s : State} (hs : M s) {k : Word → State → Result}
    (hk : ∀ v t, M t → (k v t).Ends (Carries M F)) : (pop16Then k s).Ends (Carries M F) :=
  h.pop8Then hs (fun _ _ ht => h.pop8Then ht (fun _ _ hu => hk _ _ hu))

/-- Everything the selection step of dispatch can do: nothing, or clear one of the five request bits. -/
theorem State.selectAndClear_cases (s : State) :
    (s.selectSource = none ∧ s.selectAndClear = (0x0000#16, s)) ∨
    ∃ k, k < 5 ∧ s.selectSource = some k ∧
      s.selectAndClear = (sourceVector k, { s with ifr := s.ifr &&& ~~~ sourceBit k }) := by
  unfold State.selectAndClear
  cases hk : s.selectSource with
  | none => exact .inl ⟨rfl, rfl⟩
  | some k =>
    have hm := List.mem_of_find?_eq_some hk
    refine .inr ⟨k, ?_, rfl, rfl⟩
    simp at hm
    omega

theorem OpInvariant.selectAndClear (h : OpInvariant M F) {s : State} (hs : M s) : M s.selectAndClear.2 := by
  rcases s.selectAndClear_cases with ⟨-, he⟩ | ⟨k, hk, -, he⟩ <;> rw [he]
  · exact hs
  · exact h.clear k hk hs

/-- Dispatch keeps every property that its operations keep (rule R1030). -/
theorem OpInvariant.dispatchInterrupt (h : OpInvariant M F) {s : State} (hs : M s) (fromHalt : Bool) :
    (dispatchInterrupt fromHalt s).Ends (Carries M F) := by
  have finish : ∀ (vector : Word) (t : State), M t →
      (Machine.push8Then s.regs.pc.lo (Machine.tickThen 4 (fun u => .next (u.setPc vector)))
        { t with ime := false }).Ends (Carries M F) := fun vector t ht =>
    h.push8Then (h.ime false ht) _ (fun u hu => h.tickThen hu 4 (fun w hw => h.carries (h.regs _ hw)))
  have select : ∀ t : State, M t →
      (Machine.tickThen (if fromHalt then 4 else 2)
        (fun u => Machine.push8Then s.regs.pc.lo (Machine.tickThen 4 (fun w => .next (w.setPc t.selectAndClear.1)))
          { u with ime := false }) t.selectAndClear.2).Ends (Carries M F) := fun t ht =>
    h.tickThen (h.selectAndClear ht) _ (fun u hu => finish _ u hu)
  unfold Machine.dispatchInterrupt
  refine h.tickThen hs 4 (fun t ht => h.push8Then ht _ (fun u hu => ?_))
  cases fromHalt with
  | true => exact select u hu
  | false => exact h.tickThen hu 2 (fun w hw => select w hw)

theorem OpInvariant.interruptCheck (h : OpInvariant M F) {s : State} (hs : M s) :
    (interruptCheck s).Ends (Carries M F) := by
  unfold Machine.interruptCheck
  split
  · exact h.dispatchInterrupt hs false
  · exact h.carries hs

/-- What every instruction and the step need. -/
structure ExecInvariant (M F : State → Prop) : Prop extends OpInvariant M F where
  flags : ∀ {s} f, M s → M { s with flags := f }
  pending : ∀ {s} n, M s → M { s with pendingTicks := n }
  haltBug : ∀ {s} b, M s → M { s with haltBug := b }
  fatal : ∀ {s} r, M s → F (s.raiseFatal r)
  schedule : ∀ {s} i d c, M s → Carries M F (s.addEventRelative i d c)
  halt : ∀ {s}, M s → (haltSkipThen .next s).Ends (Carries M F)
  stop : ∀ {s}, M s → (execStop 0x00#8 s).Ends (Carries M F)

theorem ExecInvariant.plain (h : ExecInvariant M F) : PlainInvariant M F where
  toAccessInvariant := h.toAccessInvariant
  pending := h.pending
  imeOn := h.ime true
  fatal := h.fatal
  schedule := h.schedule

theorem AccessInvariant.readOperandThen (h : AccessInvariant M F) {s : State} (hs : M s) (z : CbOperand)
    {k : Byte → State → Result} (hk : ∀ v t, M t → (k v t).Ends (Carries M F)) :
    (readOperandThen z k s).Ends (Carries M F) := by
  cases z with
  | reg r => exact hk _ _ hs
  | atHl => exact h.readThen hs _ hk

theorem AccessInvariant.writeOperandThen (h : AccessInvariant M F) {s : State} (hs : M s) (z : CbOperand) (v : Byte)
    {k : State → Result} (hk : ∀ t, M t → (k t).Ends (Carries M F)) :
    (writeOperandThen z v k s).Ends (Carries M F) := by
  cases z with
  | reg r => exact hk _ (h.regs _ hs)
  | atHl => exact h.writeThen hs _ v hk

end Sys2Proof.Machine
end

