-- ==== Sys2Proof/Laws/Exec.lean ====
section
/-! SUPPORT. One way to carry a property of the state through every instruction, the fetch and the end of a step. -/

namespace Sys2Proof.Machine

variable {M F : State → Prop}

theorem ExecInvariant.haltSkipThen (h : ExecInvariant M F) {s : State} (hs : M s) {k : State → Result}
    (hk : ∀ t, M t → (k t).Ends (Carries M F)) : (haltSkipThen k s).Ends (Carries M F) := by
  have hh := h.halt hs
  unfold Machine.haltSkipThen at hh ⊢
  generalize haltSkipLoop s.params.haltSkipCap { s with cpuMode := .halted } = u at hh ⊢
  cases hb : u.broken with
  | true => simpa [hb] using hh
  | false =>
    simp only [hb, Bool.false_eq_true, if_false] at hh ⊢
    rcases hh with ⟨h1, -⟩ | ⟨-, h2⟩
    · simp at h1
    · exact hk _ h2

theorem ExecInvariant.haltCpu (h : ExecInvariant M F) {s : State} (hs : M s) :
    (haltCpu s).Ends (Carries M F) := by
  unfold Machine.haltCpu
  split
  · refine h.haltSkipThen hs (fun t ht => ?_)
    split
    · exact h.dispatchInterrupt ht true
    · exact h.carries ht
  · exact h.carries (h.haltBug true hs)

/-! ### The plain instructions -/

/-- The property M is kept by a write of the flags. -/
abbrev KeepsFlags (M : State → Prop) : Prop := ∀ {s : State} (f : Flags), M s → M { s with flags := f }

theorem AccessInvariant.accumulateKeeps (h : AccessInvariant M F) (hf : KeepsFlags M) {s : State} (hs : M s)
    (op : AluOp) (v : Byte) : M (s.accumulate op v) := by
  unfold State.accumulate
  simp only
  split
  · exact hf _ hs
  · exact h.regs _ (hf _ hs)

theorem PlainInvariant.accumulate (h : PlainInvariant M F) (hf : KeepsFlags M) {s : State} (hs : M s) (op : AluOp)
    (v : Byte) : Result.Ends (Carries M F) (.next (s.accumulate op v)) := h.carries (h.accumulateKeeps hf hs op v)

theorem PlainInvariant.aluHl (h : PlainInvariant M F) (hf : KeepsFlags M) {s : State} (hs : M s) (op : AluOp) :
    (aluHl op s).Ends (Carries M F) := h.readThen hs _ (fun v _ ht => h.carries (h.accumulateKeeps hf ht op v))

theorem PlainInvariant.rotOperand (h : PlainInvariant M F) (hf : KeepsFlags M) {s : State} (hs : M s) (op : RotOp)
    (z : CbOperand) : (rotOperand op z s).Ends (Carries M F) :=
  h.readOperandThen hs z (fun _ _ ht => h.writeOperandThen ht z _ (fun _ hu => h.carries (hf _ hu)))

theorem PlainInvariant.bitOperand (h : PlainInvariant M F) (hf : KeepsFlags M) {s : State} (hs : M s) (b : Nat)
    (z : CbOperand) : (bitOperand b z s).Ends (Carries M F) :=
  h.readOperandThen hs z (fun _ _ ht => h.carries (hf _ ht))

theorem PlainInvariant.resOperand (h : PlainInvariant M F) {s : State} (hs : M s) (b : Nat) (z : CbOperand) :
    (resOperand b z s).Ends (Carries M F) :=
  h.readOperandThen hs z (fun _ _ ht => h.writeOperandThen ht z _ (fun _ hu => h.carries hu))

theorem PlainInvariant.setOperand (h : PlainInvariant M F) {s : State} (hs : M s) (b : Nat) (z : CbOperand) :
    (setOperand b z s).Ends (Carries M F) :=
  h.readOperandThen hs z (fun _ _ ht => h.writeOperandThen ht z _ (fun _ hu => h.carries hu))

/-- Whether a byte of the secondary map is a rotate, a shift or BIT (rule R322): those write flags. -/
def secondaryWritesFlags (op2 : Byte) : Bool := decide (op2.toNat / 64 < 2)

theorem PlainInvariant.runSecondary (h : PlainInvariant M F) (op2 : Byte)
    (hf : secondaryWritesFlags op2 = true → KeepsFlags M) {s : State} (hs : M s) :
    (runSecondary op2 s).Ends (Carries M F) := by
  unfold Machine.runSecondary
  simp only
  split
  · exact h.rotOperand (hf (by simp [secondaryWritesFlags, *])) hs _ _
  · exact h.bitOperand (hf (by simp [secondaryWritesFlags, *])) hs _ _
  · exact h.resOperand hs _ _
  · exact h.setOperand hs _ _

theorem PlainInvariant.incHl (h : PlainInvariant M F) (hf : KeepsFlags M) {s : State} (hs : M s) :
    (incHl s).Ends (Carries M F) :=
  h.readThen hs _ (fun _ _ ht => h.writeThen ht _ _ (fun _ hu => h.carries (hf _ hu)))

theorem PlainInvariant.decHl (h : PlainInvariant M F) (hf : KeepsFlags M) {s : State} (hs : M s) :
    (decHl s).Ends (Carries M F) :=
  h.readThen hs _ (fun _ _ ht => h.writeThen ht _ _ (fun _ hu => h.carries (hf _ hu)))

theorem PlainInvariant.jump (h : PlainInvariant M F) {s : State} (hs : M s) (n : Word) :
    (jump n s).Ends (Carries M F) := h.carries (h.pending _ (h.regs _ hs))

theorem PlainInvariant.jumpIf (h : PlainInvariant M F) {s : State} (hs : M s) (cc : Cond) (n : Word) :
    (jumpIf cc n s).Ends (Carries M F) := by
  unfold Machine.jumpIf; split
  · exact h.jump hs n
  · exact h.carries hs

theorem PlainInvariant.jumpRel (h : PlainInvariant M F) {s : State} (hs : M s) (e : Byte) :
    (jumpRel e s).Ends (Carries M F) := h.carries (h.pending _ (h.regs _ hs))

theorem PlainInvariant.jumpRelIf (h : PlainInvariant M F) {s : State} (hs : M s) (cc : Cond) (e : Byte) :
    (jumpRelIf cc e s).Ends (Carries M F) := by
  unfold Machine.jumpRelIf; split
  · exact h.jumpRel hs e
  · exact h.carries hs

theorem PlainInvariant.call (h : PlainInvariant M F) {s : State} (hs : M s) (n : Word) :
    (call n s).Ends (Carries M F) :=
  h.push16Then (h.pending _ hs) _ (fun _ ht => h.carries (h.regs _ ht))

theorem PlainInvariant.callIf (h : PlainInvariant M F) {s : State} (hs : M s) (cc : Cond) (n : Word) :
    (callIf cc n s).Ends (Carries M F) := by
  unfold Machine.callIf; split
  · exact h.call hs n
  · exact h.carries hs

theorem PlainInvariant.ret (h : PlainInvariant M F) {s : State} (hs : M s) : (ret s).Ends (Carries M F) :=
  h.pop16Then hs (fun _ _ ht => h.carries (h.pending _ (h.regs _ ht)))

theorem PlainInvariant.retIf (h : PlainInvariant M F) {s : State} (hs : M s) (cc : Cond) :
    (retIf cc s).Ends (Carries M F) := by
  unfold Machine.retIf; split
  · exact h.ret (h.pending _ hs)
  · exact h.carries (h.pending _ hs)

theorem PlainInvariant.returnFromInterrupt (h : PlainInvariant M F) {s : State} (hs : M s) :
    (returnFromInterrupt s).Ends (Carries M F) :=
  h.pop16Then hs (fun _ _ ht => h.carries (h.pending _ (h.imeOn (h.regs _ ht))))

theorem PlainInvariant.loadHl (h : PlainInvariant M F) {s : State} (hs : M s) (r : Reg8) :
    (loadHl r s).Ends (Carries M F) := h.readThen hs _ (fun _ _ ht => h.carries (h.regs _ ht))

theorem PlainInvariant.loadAcc (h : PlainInvariant M F) {s : State} (hs : M s) (x : Word) :
    (loadAcc x s).Ends (Carries M F) := h.readThen hs _ (fun _ _ ht => h.carries (h.regs _ ht))

theorem PlainInvariant.store (h : PlainInvariant M F) {s : State} (hs : M s) (x : Word) (v : Byte) :
    (writeThen x v .next s).Ends (Carries M F) := h.writeThen hs _ _ (fun _ ht => h.carries ht)

theorem PlainInvariant.loadAccStep (h : PlainInvariant M F) {s : State} (hs : M s) (d : Word) :
    (loadAccStep d s).Ends (Carries M F) := h.readThen hs _ (fun _ _ ht => h.carries (h.regs _ (h.regs _ ht)))

theorem PlainInvariant.storeAccStep (h : PlainInvariant M F) {s : State} (hs : M s) (d : Word) :
    (storeAccStep d s).Ends (Carries M F) := h.writeThen hs _ _ (fun _ ht => h.carries (h.regs _ ht))

theorem PlainInvariant.storeSp (h : PlainInvariant M F) {s : State} (hs : M s) (n : Word) :
    (storeSp n s).Ends (Carries M F) := h.writeThen hs _ _ (fun _ ht => h.store ht _ _)

theorem PlainInvariant.pushPair (h : PlainInvariant M F) {s : State} (hs : M s) (r : StackPair) :
    (pushPair r s).Ends (Carries M F) := h.push16Then (h.pending _ hs) _ (fun _ ht => h.carries ht)

theorem PlainInvariant.popPair (h : PlainInvariant M F) (r : StackPair) (hf : r = .af → KeepsFlags M) {s : State}
    (hs : M s) : (popPair r s).Ends (Carries M F) :=
  h.pop16Then hs (fun v t ht => h.carries (by
    cases r with
    | af => exact hf rfl _ (h.regs _ ht)
    | _ => exact h.regs _ ht))

theorem PlainInvariant.illegal (h : PlainInvariant M F) {s : State} (hs : M s) (op : Byte) :
    (illegalOpcode op s).Ends (Carries M F) := .inl ⟨rfl, h.fatal _ hs⟩

/-- Whether an instruction writes any flag: a row of the opcode table with something else than '-' for a flag. -/
def writesFlags : Instr → Bool
  | .prefixCb op2 => secondaryWritesFlags op2
  | .incB | .decB | .rlca | .addHlBc | .incC | .decC | .rrca | .incD | .decD | .rla | .addHlDe | .incE | .decE
  | .rra | .incH | .decH | .daa | .addHlHl | .incL | .decL | .cpl | .incAtHl | .decAtHl | .scf | .addHlSp | .incA
  | .decA | .ccf | .addAB | .addAC | .addAD | .addAE | .addAH | .addAL | .addAAtHl | .addAA | .adcAB | .adcAC
  | .adcAD | .adcAE | .adcAH | .adcAL | .adcAAtHl | .adcAA | .subAB | .subAC | .subAD | .subAE | .subAH | .subAL
  | .subAAtHl | .subAA | .sbcAB | .sbcAC | .sbcAD | .sbcAE | .sbcAH | .sbcAL | .sbcAAtHl | .sbcAA | .andAB | .andAC
  | .andAD | .andAE | .andAH | .andAL | .andAAtHl | .andAA | .xorAB | .xorAC | .xorAD | .xorAE | .xorAH | .xorAL
  | .xorAAtHl | .xorAA | .orAB | .orAC | .orAD | .orAE | .orAH | .orAL | .orAAtHl | .orAA | .cpAB | .cpAC | .cpAD
  | .cpAE | .cpAH | .cpAL | .cpAAtHl | .cpAA | .addAN8 _ | .adcAN8 _ | .subAN8 _ | .sbcAN8 _ | .andAN8 _
  | .addSpE8 _ | .xorAN8 _ | .popAf | .orAN8 _ | .ldHlSpE8 _ | .cpAN8 _ | .rlcB | .rlcC | .rlcD | .rlcE | .rlcH
  | .rlcL | .rlcAtHl | .rlcA | .rrcB | .rrcC | .rrcD | .rrcE | .rrcH | .rrcL | .rrcAtHl | .rrcA | .rlB | .rlC
  | .rlD | .rlE | .rlH | .rlL | .rlAtHl | .rlA | .rrB | .rrC | .rrD | .rrE | .rrH | .rrL | .rrAtHl | .rrA | .slaB
  | .slaC | .slaD | .slaE | .slaH | .slaL | .slaAtHl | .slaA | .sraB | .sraC | .sraD | .sraE | .sraH | .sraL
  | .sraAtHl | .sraA | .swapB | .swapC | .swapD | .swapE | .swapH | .swapL | .swapAtHl | .swapA | .srlB | .srlC
  | .srlD | .srlE | .srlH | .srlL | .srlAtHl | .srlA | .bit0B | .bit0C | .bit0D | .bit0E | .bit0H | .bit0L
  | .bit0AtHl | .bit0A | .bit1B | .bit1C | .bit1D | .bit1E | .bit1H | .bit1L | .bit1AtHl | .bit1A | .bit2B | .bit2C
  | .bit2D | .bit2E | .bit2H | .bit2L | .bit2AtHl | .bit2A | .bit3B | .bit3C | .bit3D | .bit3E | .bit3H | .bit3L
  | .bit3AtHl | .bit3A | .bit4B | .bit4C | .bit4D | .bit4E | .bit4H | .bit4L | .bit4AtHl | .bit4A | .bit5B | .bit5C
  | .bit5D | .bit5E | .bit5H | .bit5L | .bit5AtHl | .bit5A | .bit6B | .bit6C | .bit6D | .bit6E | .bit6H | .bit6L
  | .bit6AtHl | .bit6A | .bit7B | .bit7C | .bit7D | .bit7E | .bit7H | .bit7L | .bit7AtHl | .bit7A => true
  | _ => false

/-- Every instruction but HALT, STOP and DI keeps a property that its operations keep; the flags enter only for the
instructions that write them. -/
theorem PlainInvariant.exec (h : PlainInvariant M F) {s : State} (hs : M s) : (i : Instr) →
    (writesFlags i = true → KeepsFlags M) →
    ((i = .halt ∨ i = .di ∨ ∃ n8, i = .stop n8) → Result.Ends (Carries M F) (exec i s)) →
    Result.Ends (Carries M F) (exec i s)
  | .nop, _, _ => h.carries hs
  | .ldBcN16 _, _, _ => h.carries (h.regs _ hs)
  | .ldAtBcA, _, _ => h.store hs _ _
  | .incBc, _, _ => h.carries (h.pending _ (h.regs _ hs))
  | .incB, hf, _ => h.carries (hf rfl _ (h.regs _ hs))
  | .decB, hf, _ => h.carries (hf rfl _ (h.regs _ hs))
  | .ldBN8 _, _, _ => h.carries (h.regs _ hs)
  | .rlca, hf, _ => h.carries (hf rfl _ (h.regs _ hs))
  | .ldAtN16Sp _, _, _ => h.storeSp hs _
  | .addHlBc, hf, _ => h.carries (h.pending _ (hf rfl _ (h.regs _ hs)))
  | .ldAAtBc, _, _ => h.loadAcc hs _
  | .decBc, _, _ => h.carries (h.pending _ (h.regs _ hs))
  | .incC, hf, _ => h.carries (hf rfl _ (h.regs _ hs))
  | .decC, hf, _ => h.carries (hf rfl _ (h.regs _ hs))
  | .ldCN8 _, _, _ => h.carries (h.regs _ hs)
  | .rrca, hf, _ => h.carries (hf rfl _ (h.regs _ hs))
  | .stop _, _, special => special (by simp)
  | .ldDeN16 _, _, _ => h.carries (h.regs _ hs)
  | .ldAtDeA, _, _ => h.store hs _ _
  | .incDe, _, _ => h.carries (h.pending _ (h.regs _ hs))
  | .incD, hf, _ => h.carries (hf rfl _ (h.regs _ hs))
  | .decD, hf, _ => h.carries (hf rfl _ (h.regs _ hs))
  | .ldDN8 _, _, _ => h.carries (h.regs _ hs)
  | .rla, hf, _ => h.carries (hf rfl _ (h.regs _ hs))
  | .jrE8 _, _, _ => h.jumpRel hs _
  | .addHlDe, hf, _ => h.carries (h.pending _ (hf rfl _ (h.regs _ hs)))
  | .ldAAtDe, _, _ => h.loadAcc hs _
  | .decDe, _, _ => h.carries (h.pending _ (h.regs _ hs))
  | .incE, hf, _ => h.carries (hf rfl _ (h.regs _ hs))
  | .decE, hf, _ => h.carries (hf rfl _ (h.regs _ hs))
  | .ldEN8 _, _, _ => h.carries (h.regs _ hs)
  | .rra, hf, _ => h.carries (hf rfl _ (h.regs _ hs))
  | .jrNzE8 _, _, _ => h.jumpRelIf hs _ _
  | .ldHlN16 _, _, _ => h.carries (h.regs _ hs)
  | .ldAtHlIncA, _, _ => h.storeAccStep hs _
  | .incHl, _, _ => h.carries (h.pending _ (h.regs _ hs))
  | .incH, hf, _ => h.carries (hf rfl _ (h.regs _ hs))
  | .decH, hf, _ => h.carries (hf rfl _ (h.regs _ hs))
  | .ldHN8 _, _, _ => h.carries (h.regs _ hs)
  | .daa, hf, _ => h.carries (hf rfl _ (h.regs _ hs))
  | .jrZE8 _, _, _ => h.jumpRelIf hs _ _
  | .addHlHl, hf, _ => h.carries (h.pending _ (hf rfl _ (h.regs _ hs)))
  | .ldAAtHlInc, _, _ => h.loadAccStep hs _
  | .decHl, _, _ => h.carries (h.pending _ (h.regs _ hs))
  | .incL, hf, _ => h.carries (hf rfl _ (h.regs _ hs))
  | .decL, hf, _ => h.carries (hf rfl _ (h.regs _ hs))
  | .ldLN8 _, _, _ => h.carries (h.regs _ hs)
  | .cpl, hf, _ => h.carries (hf rfl _ (h.regs _ hs))
  | .jrNcE8 _, _, _ => h.jumpRelIf hs _ _
  | .ldSpN16 _, _, _ => h.carries (h.regs _ hs)
  | .ldAtHlDecA, _, _ => h.storeAccStep hs _
  | .incSp, _, _ => h.carries (h.pending _ (h.regs _ hs))
  | .incAtHl, hf, _ => h.incHl (hf rfl) hs
  | .decAtHl, hf, _ => h.decHl (hf rfl) hs
  | .ldAtHlN8 _, _, _ => h.store hs _ _
  | .scf, hf, _ => h.carries (hf rfl _ hs)
  | .jrCE8 _, _, _ => h.jumpRelIf hs _ _
  | .addHlSp, hf, _ => h.carries (h.pending _ (hf rfl _ (h.regs _ hs)))
  | .ldAAtHlDec, _, _ => h.loadAccStep hs _
  | .decSp, _, _ => h.carries (h.pending _ (h.regs _ hs))
  | .incA, hf, _ => h.carries (hf rfl _ (h.regs _ hs))
  | .decA, hf, _ => h.carries (hf rfl _ (h.regs _ hs))
  | .ldAN8 _, _, _ => h.carries (h.regs _ hs)
  | .ccf, hf, _ => h.carries (hf rfl _ hs)
  | .ldBB, _, _ => h.carries (h.regs _ hs)
  | .ldBC, _, _ => h.carries (h.regs _ hs)
  | .ldBD, _, _ => h.carries (h.regs _ hs)
  | .ldBE, _, _ => h.carries (h.regs _ hs)
  | .ldBH, _, _ => h.carries (h.regs _ hs)
  | .ldBL, _, _ => h.carries (h.regs _ hs)
  | .ldBAtHl, _, _ => h.loadHl hs _
  | .ldBA, _, _ => h.carries (h.regs _ hs)
  | .ldCB, _, _ => h.carries (h.regs _ hs)
  | .ldCC, _, _ => h.carries (h.regs _ hs)
  | .ldCD, _, _ => h.carries (h.regs _ hs)
  | .ldCE, _, _ => h.carries (h.regs _ hs)
  | .ldCH, _, _ => h.carries (h.regs _ hs)
  | .ldCL, _, _ => h.carries (h.regs _ hs)
  | .ldCAtHl, _, _ => h.loadHl hs _
  | .ldCA, _, _ => h.carries (h.regs _ hs)
  | .ldDB, _, _ => h.carries (h.regs _ hs)
  | .ldDC, _, _ => h.carries (h.regs _ hs)
  | .ldDD, _, _ => h.carries (h.regs _ hs)
  | .ldDE, _, _ => h.carries (h.regs _ hs)
  | .ldDH, _, _ => h.carries (h.regs _ hs)
  | .ldDL, _, _ => h.carries (h.regs _ hs)
  | .ldDAtHl, _, _ => h.loadHl hs _
  | .ldDA, _, _ => h.carries (h.regs _ hs)
  | .ldEB, _, _ => h.carries (h.regs _ hs)
  | .ldEC, _, _ => h.carries (h.regs _ hs)
  | .ldED, _, _ => h.carries (h.regs _ hs)
  | .ldEE, _, _ => h.carries (h.regs _ hs)
  | .ldEH, _, _ => h.carries (h.regs _ hs)
  | .ldEL, _, _ => h.carries (h.regs _ hs)
  | .ldEAtHl, _, _ => h.loadHl hs _
  | .ldEA, _, _ => h.carries (h.regs _ hs)
  | .ldHB, _, _ => h.carries (h.regs _ hs)
  | .ldHC, _, _ => h.carries (h.regs _ hs)
  | .ldHD, _, _ => h.carries (h.regs _ hs)
  | .ldHE, _, _ => h.carries (h.regs _ hs)
  | .ldHH, _, _ => h.carries (h.regs _ hs)
  | .ldHL, _, _ => h.carries (h.regs _ hs)
  | .ldHAtHl, _, _ => h.loadHl hs _
  | .ldHA, _, _ => h.carries (h.regs _ hs)
  | .ldLB, _, _ => h.carries (h.regs _ hs)
  | .ldLC, _, _ => h.carries (h.regs _ hs)
  | .ldLD, _, _ => h.carries (h.regs _ hs)
  | .ldLE, _, _ => h.carries (h.regs _ hs)
  | .ldLH, _, _ => h.carries (h.regs _ hs)
  | .ldLL, _, _ => h.carries (h.regs _ hs)
  | .ldLAtHl, _, _ => h.loadHl hs _
  | .ldLA, _, _ => h.carries (h.regs _ hs)
  | .ldAtHlB, _, _ => h.store hs _ _
  | .ldAtHlC, _, _ => h.store hs _ _
  | .ldAtHlD, _, _ => h.store hs _ _
  | .ldAtHlE, _, _ => h.store hs _ _
  | .ldAtHlH, _, _ => h.store hs _ _
  | .ldAtHlL, _, _ => h.store hs _ _
  | .halt, _, special => special (by simp)
  | .ldAtHlA, _, _ => h.store hs _ _
  | .ldAB, _, _ => h.carries (h.regs _ hs)
  | .ldAC, _, _ => h.carries (h.regs _ hs)
  | .ldAD, _, _ => h.carries (h.regs _ hs)
  | .ldAE, _, _ => h.carries (h.regs _ hs)
  | .ldAH, _, _ => h.carries (h.regs _ hs)
  | .ldAL, _, _ => h.carries (h.regs _ hs)
  | .ldAAtHl, _, _ => h.loadHl hs _
  | .ldAA, _, _ => h.carries (h.regs _ hs)
  | .addAB, hf, _ => h.accumulate (hf rfl) hs _ _
  | .addAC, hf, _ => h.accumulate (hf rfl) hs _ _
  | .addAD, hf, _ => h.accumulate (hf rfl) hs _ _
  | .addAE, hf, _ => h.accumulate (hf rfl) hs _ _
  | .addAH, hf, _ => h.accumulate (hf rfl) hs _ _
  | .addAL, hf, _ => h.accumulate (hf rfl) hs _ _
  | .addAAtHl, hf, _ => h.aluHl (hf rfl) hs _
  | .addAA, hf, _ => h.accumulate (hf rfl) hs _ _
  | .adcAB, hf, _ => h.accumulate (hf rfl) hs _ _
  | .adcAC, hf, _ => h.accumulate (hf rfl) hs _ _
  | .adcAD, hf, _ => h.accumulate (hf rfl) hs _ _
  | .adcAE, hf, _ => h.accumulate (hf rfl) hs _ _
  | .adcAH, hf, _ => h.accumulate (hf rfl) hs _ _
  | .adcAL, hf, _ => h.accumulate (hf rfl) hs _ _
  | .adcAAtHl, hf, _ => h.aluHl (hf rfl) hs _
  | .adcAA, hf, _ => h.accumulate (hf rfl) hs _ _
  | .subAB, hf, _ => h.accumulate (hf rfl) hs _ _
  | .subAC, hf, _ => h.accumulate (hf rfl) hs _ _
  | .subAD, hf, _ => h.accumulate (hf rfl) hs _ _
  | .subAE, hf, _ => h.accumulate (hf rfl) hs _ _
  | .subAH, hf, _ => h.accumulate (hf rfl) hs _ _
  | .subAL, hf, _ => h.accumulate (hf rfl) hs _ _
  | .subAAtHl, hf, _ => h.aluHl (hf rfl) hs _
  | .subAA, hf, _ => h.accumulate (hf rfl) hs _ _
  | .sbcAB, hf, _ => h.accumulate (hf rfl) hs _ _
  | .sbcAC, hf, _ => h.accumulate (hf rfl) hs _ _
  | .sbcAD, hf, _ => h.accumulate (hf rfl) hs _ _
  | .sbcAE, hf, _ => h.accumulate (hf rfl) hs _ _
  | .sbcAH, hf, _ => h.accumulate (hf rfl) hs _ _
  | .sbcAL, hf, _ => h.accumulate (hf rfl) hs _ _
  | .sbcAAtHl, hf, _ => h.aluHl (hf rfl) hs _
  | .sbcAA, hf, _ => h.accumulate (hf rfl) hs _ _
  | .andAB, hf, _ => h.accumulate (hf rfl) hs _ _
  | .andAC, hf, _ => h.accumulate (hf rfl) hs _ _
  | .andAD, hf, _ => h.accumulate (hf rfl) hs _ _
  | .andAE, hf, _ => h.accumulate (hf rfl) hs _ _
  | .andAH, hf, _ => h.accumulate (hf rfl) hs _ _
  | .andAL, hf, _ => h.accumulate (hf rfl) hs _ _
  | .andAAtHl, hf, _ => h.aluHl (hf rfl) hs _
  | .andAA, hf, _ => h.accumulate (hf rfl) hs _ _
  | .xorAB, hf, _ => h.accumulate (hf rfl) hs _ _
  | .xorAC, hf, _ => h.accumulate (hf rfl) hs _ _
  | .xorAD, hf, _ => h.accumulate (hf rfl) hs _ _
  | .xorAE, hf, _ => h.accumulate (hf rfl) hs _ _
  | .xorAH, hf, _ => h.accumulate (hf rfl) hs _ _
  | .xorAL, hf, _ => h.accumulate (hf rfl) hs _ _
  | .xorAAtHl, hf, _ => h.aluHl (hf rfl) hs _
  | .xorAA, hf, _ => h.accumulate (hf rfl) hs _ _
  | .orAB, hf, _ => h.accumulate (hf rfl) hs _ _
  | .orAC, hf, _ => h.accumulate (hf rfl) hs _ _
  | .orAD, hf, _ => h.accumulate (hf rfl) hs _ _
  | .orAE, hf, _ => h.accumulate (hf rfl) hs _ _
  | .orAH, hf, _ => h.accumulate (hf rfl) hs _ _
  | .orAL, hf, _ => h.accumulate (hf rfl) hs _ _
  | .orAAtHl, hf, _ => h.aluHl (hf rfl) hs _
  | .orAA, hf, _ => h.accumulate (hf rfl) hs _ _
  | .cpAB, hf, _ => h.accumulate (hf rfl) hs _ _
  | .cpAC, hf, _ => h.accumulate (hf rfl) hs _ _
  | .cpAD, hf, _ => h.accumulate (hf rfl) hs _ _
  | .cpAE, hf, _ => h.accumulate (hf rfl) hs _ _
  | .cpAH, hf, _ => h.accumulate (hf rfl) hs _ _
  | .cpAL, hf, _ => h.accumulate (hf rfl) hs _ _
  | .cpAAtHl, hf, _ => h.aluHl (hf rfl) hs _
  | .cpAA, hf, _ => h.accumulate (hf rfl) hs _ _
  | .retNz, _, _ => h.retIf hs _
  | .popBc, _, _ => h.popPair .bc (fun e => nomatch e) hs
  | .jpNzN16 _, _, _ => h.jumpIf hs _ _
  | .jpN16 _, _, _ => h.jump hs _
  | .callNzN16 _, _, _ => h.callIf hs _ _
  | .pushBc, _, _ => h.pushPair hs _
  | .addAN8 _, hf, _ => h.accumulate (hf rfl) hs _ _
  | .rst00, _, _ => h.call hs _
  | .retZ, _, _ => h.retIf hs _
  | .ret, _, _ => h.ret hs
  | .jpZN16 _, _, _ => h.jumpIf hs _ _
  | .prefixCb _, hf, _ => h.runSecondary _ hf hs
  | .callZN16 _, _, _ => h.callIf hs _ _
  | .callN16 _, _, _ => h.call hs _
  | .adcAN8 _, hf, _ => h.accumulate (hf rfl) hs _ _
  | .rst08, _, _ => h.call hs _
  | .retNc, _, _ => h.retIf hs _
  | .popDe, _, _ => h.popPair .de (fun e => nomatch e) hs
  | .jpNcN16 _, _, _ => h.jumpIf hs _ _
  | .illegalD3, _, _ => h.illegal hs _
  | .callNcN16 _, _, _ => h.callIf hs _ _
  | .pushDe, _, _ => h.pushPair hs _
  | .subAN8 _, hf, _ => h.accumulate (hf rfl) hs _ _
  | .rst10, _, _ => h.call hs _
  | .retC, _, _ => h.retIf hs _
  | .reti, _, _ => h.returnFromInterrupt hs
  | .jpCN16 _, _, _ => h.jumpIf hs _ _
  | .illegalDB, _, _ => h.illegal hs _
  | .callCN16 _, _, _ => h.callIf hs _ _
  | .illegalDD, _, _ => h.illegal hs _
  | .sbcAN8 _, hf, _ => h.accumulate (hf rfl) hs _ _
  | .rst18, _, _ => h.call hs _
  | .ldhAtN8A _, _, _ => h.store hs _ _
  | .popHl, _, _ => h.popPair .hl (fun e => nomatch e) hs
  | .ldhAtCA, _, _ => h.store hs _ _
  | .illegalE3, _, _ => h.illegal hs _
  | .illegalE4, _, _ => h.illegal hs _
  | .pushHl, _, _ => h.pushPair hs _
  | .andAN8 _, hf, _ => h.accumulate (hf rfl) hs _ _
  | .rst20, _, _ => h.call hs _
  | .addSpE8 _, hf, _ => h.carries (h.pending _ (h.pending _ (hf rfl _ (h.regs _ hs))))
  | .jpHl, _, _ => h.carries (h.regs _ hs)
  | .ldAtN16A _, _, _ => h.store hs _ _
  | .illegalEB, _, _ => h.illegal hs _
  | .illegalEC, _, _ => h.illegal hs _
  | .illegalED, _, _ => h.illegal hs _
  | .xorAN8 _, hf, _ => h.accumulate (hf rfl) hs _ _
  | .rst28, _, _ => h.call hs _
  | .ldhAAtN8 _, _, _ => h.loadAcc hs _
  | .popAf, hf, _ => h.popPair .af (fun _ => hf rfl) hs
  | .ldhAAtC, _, _ => h.loadAcc hs _
  | .di, _, special => special (by simp)
  | .illegalF4, _, _ => h.illegal hs _
  | .pushAf, _, _ => h.pushPair hs _
  | .orAN8 _, hf, _ => h.accumulate (hf rfl) hs _ _
  | .rst30, _, _ => h.call hs _
  | .ldHlSpE8 _, hf, _ => h.carries (h.pending _ (hf rfl _ (h.regs _ hs)))
  | .ldSpHl, _, _ => h.carries (h.pending _ (h.regs _ hs))
  | .ldAAtN16 _, _, _ => h.loadAcc hs _
  | .ei, _, _ => h.schedule _ _ _ hs
  | .illegalFC, _, _ => h.illegal hs _
  | .illegalFD, _, _ => h.illegal hs _
  | .cpAN8 _, hf, _ => h.accumulate (hf rfl) hs _ _
  | .rst38, _, _ => h.call hs _
  | .rlcB, hf, _ => h.rotOperand (hf rfl) hs .rlc (.reg .b)
  | .rlcC, hf, _ => h.rotOperand (hf rfl) hs .rlc (.reg .c)
  | .rlcD, hf, _ => h.rotOperand (hf rfl) hs .rlc (.reg .d)
  | .rlcE, hf, _ => h.rotOperand (hf rfl) hs .rlc (.reg .e)
  | .rlcH, hf, _ => h.rotOperand (hf rfl) hs .rlc (.reg .h)
  | .rlcL, hf, _ => h.rotOperand (hf rfl) hs .rlc (.reg .l)
  | .rlcAtHl, hf, _ => h.rotOperand (hf rfl) hs .rlc .atHl
  | .rlcA, hf, _ => h.rotOperand (hf rfl) hs .rlc (.reg .a)
  | .rrcB, hf, _ => h.rotOperand (hf rfl) hs .rrc (.reg .b)
  | .rrcC, hf, _ => h.rotOperand (hf rfl) hs .rrc (.reg .c)
  | .rrcD, hf, _ => h.rotOperand (hf rfl) hs .rrc (.reg .d)
  | .rrcE, hf, _ => h.rotOperand (hf rfl) hs .rrc (.reg .e)
  | .rrcH, hf, _ => h.rotOperand (hf rfl) hs .rrc (.reg .h)
  | .rrcL, hf, _ => h.rotOperand (hf rfl) hs .rrc (.reg .l)
  | .rrcAtHl, hf, _ => h.rotOperand (hf rfl) hs .rrc .atHl
  | .rrcA, hf, _ => h.rotOperand (hf rfl) hs .rrc (.reg .a)
  | .rlB, hf, _ => h.rotOperand (hf rfl) hs .rl (.reg .b)
  | .rlC, hf, _ => h.rotOperand (hf rfl) hs .rl (.reg .c)
  | .rlD, hf, _ => h.rotOperand (hf rfl) hs .rl (.reg .d)
  | .rlE, hf, _ => h.rotOperand (hf rfl) hs .rl (.reg .e)
  | .rlH, hf, _ => h.rotOperand (hf rfl) hs .rl (.reg .h)
  | .rlL, hf, _ => h.rotOperand (hf rfl) hs .rl (.reg .l)
  | .rlAtHl, hf, _ => h.rotOperand (hf rfl) hs .rl .atHl
  | .rlA, hf, _ => h.rotOperand (hf rfl) hs .rl (.reg .a)
  | .rrB, hf, _ => h.rotOperand (hf rfl) hs .rr (.reg .b)
  | .rrC, hf, _ => h.rotOperand (hf rfl) hs .rr (.reg .c)
  | .rrD, hf, _ => h.rotOperand (hf rfl) hs .rr (.reg .d)
  | .rrE, hf, _ => h.rotOperand (hf rfl) hs .rr (.reg .e)
  | .rrH, hf, _ => h.rotOperand (hf rfl) hs .rr (.reg .h)
  | .rrL, hf, _ => h.rotOperand (hf rfl) hs .rr (.reg .l)
  | .rrAtHl, hf, _ => h.rotOperand (hf rfl) hs .rr .atHl
  | .rrA, hf, _ => h.rotOperand (hf rfl) hs .rr (.reg .a)
  | .slaB, hf, _ => h.rotOperand (hf rfl) hs .sla (.reg .b)
  | .slaC, hf, _ => h.rotOperand (hf rfl) hs .sla (.reg .c)
  | .slaD, hf, _ => h.rotOperand (hf rfl) hs .sla (.reg .d)
  | .slaE, hf, _ => h.rotOperand (hf rfl) hs .sla (.reg .e)
  | .slaH, hf, _ => h.rotOperand (hf rfl) hs .sla (.reg .h)
  | .slaL, hf, _ => h.rotOperand (hf rfl) hs .sla (.reg .l)
  | .slaAtHl, hf, _ => h.rotOperand (hf rfl) hs .sla .atHl
  | .slaA, hf, _ => h.rotOperand (hf rfl) hs .sla (.reg .a)
  | .sraB, hf, _ => h.rotOperand (hf rfl) hs .sra (.reg .b)
  | .sraC, hf, _ => h.rotOperand (hf rfl) hs .sra (.reg .c)
  | .sraD, hf, _ => h.rotOperand (hf rfl) hs .sra (.reg .d)
  | .sraE, hf, _ => h.rotOperand (hf rfl) hs .sra (.reg .e)
  | .sraH, hf, _ => h.rotOperand (hf rfl) hs .sra (.reg .h)
  | .sraL, hf, _ => h.rotOperand (hf rfl) hs .sra (.reg .l)
  | .sraAtHl, hf, _ => h.rotOperand (hf rfl) hs .sra .atHl
  | .sraA, hf, _ => h.rotOperand (hf rfl) hs .sra (.reg .a)
  | .swapB, hf, _ => h.rotOperand (hf rfl) hs .swap (.reg .b)
  | .swapC, hf, _ => h.rotOperand (hf rfl) hs .swap (.reg .c)
  | .swapD, hf, _ => h.rotOperand (hf rfl) hs .swap (.reg .d)
  | .swapE, hf, _ => h.rotOperand (hf rfl) hs .swap (.reg .e)
  | .swapH, hf, _ => h.rotOperand (hf rfl) hs .swap (.reg .h)
  | .swapL, hf, _ => h.rotOperand (hf rfl) hs .swap (.reg .l)
  | .swapAtHl, hf, _ => h.rotOperand (hf rfl) hs .swap .atHl
  | .swapA, hf, _ => h.rotOperand (hf rfl) hs .swap (.reg .a)
  | .srlB, hf, _ => h.rotOperand (hf rfl) hs .srl (.reg .b)
  | .srlC, hf, _ => h.rotOperand (hf rfl) hs .srl (.reg .c)
  | .srlD, hf, _ => h.rotOperand (hf rfl) hs .srl (.reg .d)
  | .srlE, hf, _ => h.rotOperand (hf rfl) hs .srl (.reg .e)
  | .srlH, hf, _ => h.rotOperand (hf rfl) hs .srl (.reg .h)
  | .srlL, hf, _ => h.rotOperand (hf rfl) hs .srl (.reg .l)
  | .srlAtHl, hf, _ => h.rotOperand (hf rfl) hs .srl .atHl
  | .srlA, hf, _ => h.rotOperand (hf rfl) hs .srl (.reg .a)
  | .bit0B, hf, _ => h.bitOperand (hf rfl) hs 0 (.reg .b)
  | .bit0C, hf, _ => h.bitOperand (hf rfl) hs 0 (.reg .c)
  | .bit0D, hf, _ => h.bitOperand (hf rfl) hs 0 (.reg .d)
  | .bit0E, hf, _ => h.bitOperand (hf rfl) hs 0 (.reg .e)
  | .bit0H, hf, _ => h.bitOperand (hf rfl) hs 0 (.reg .h)
  | .bit0L, hf, _ => h.bitOperand (hf rfl) hs 0 (.reg .l)
  | .bit0AtHl, hf, _ => h.bitOperand (hf rfl) hs 0 .atHl
  | .bit0A, hf, _ => h.bitOperand (hf rfl) hs 0 (.reg .a)
  | .bit1B, hf, _ => h.bitOperand (hf rfl) hs 1 (.reg .b)
  | .bit1C, hf, _ => h.bitOperand (hf rfl) hs 1 (.reg .c)
  | .bit1D, hf, _ => h.bitOperand (hf rfl) hs 1 (.reg .d)
  | .bit1E, hf, _ => h.bitOperand (hf rfl) hs 1 (.reg .e)
  | .bit1H, hf, _ => h.bitOperand (hf rfl) hs 1 (.reg .h)
  | .bit1L, hf, _ => h.bitOperand (hf rfl) hs 1 (.reg .l)
  | .bit1AtHl, hf, _ => h.bitOperand (hf rfl) hs 1 .atHl
  | .bit1A, hf, _ => h.bitOperand (hf rfl) hs 1 (.reg .a)
  | .bit2B, hf, _ => h.bitOperand (hf rfl) hs 2 (.reg .b)
  | .bit2C, hf, _ => h.bitOperand (hf rfl) hs 2 (.reg .c)
  | .bit2D, hf, _ => h.bitOperand (hf rfl) hs 2 (.reg .d)
  | .bit2E, hf, _ => h.bitOperand (hf rfl) hs 2 (.reg .e)
  | .bit2H, hf, _ => h.bitOperand (hf rfl) hs 2 (.reg .h)
  | .bit2L, hf, _ => h.bitOperand (hf rfl) hs 2 (.reg .l)
  | .bit2AtHl, hf, _ => h.bitOperand (hf rfl) hs 2 .atHl
  | .bit2A, hf, _ => h.bitOperand (hf rfl) hs 2 (.reg .a)
  | .bit3B, hf, _ => h.bitOperand (hf rfl) hs 3 (.reg .b)
  | .bit3C, hf, _ => h.bitOperand (hf rfl) hs 3 (.reg .c)
  | .bit3D, hf, _ => h.bitOperand (hf rfl) hs 3 (.reg .d)
  | .bit3E, hf, _ => h.bitOperand (hf rfl) hs 3 (.reg .e)
  | .bit3H, hf, _ => h.bitOperand (hf rfl) hs 3 (.reg .h)
  | .bit3L, hf, _ => h.bitOperand (hf rfl) hs 3 (.reg .l)
  | .bit3AtHl, hf, _ => h.bitOperand (hf rfl) hs 3 .atHl
  | .bit3A, hf, _ => h.bitOperand (hf rfl) hs 3 (.reg .a)
  | .bit4B, hf, _ => h.bitOperand (hf rfl) hs 4 (.reg .b)
  | .bit4C, hf, _ => h.bitOperand (hf rfl) hs 4 (.reg .c)
  | .bit4D, hf, _ => h.bitOperand (hf rfl) hs 4 (.reg .d)
  | .bit4E, hf, _ => h.bitOperand (hf rfl) hs 4 (.reg .e)
  | .bit4H, hf, _ => h.bitOperand (hf rfl) hs 4 (.reg .h)
  | .bit4L, hf, _ => h.bitOperand (hf rfl) hs 4 (.reg .l)
  | .bit4AtHl, hf, _ => h.bitOperand (hf rfl) hs 4 .atHl
  | .bit4A, hf, _ => h.bitOperand (hf rfl) hs 4 (.reg .a)
  | .bit5B, hf, _ => h.bitOperand (hf rfl) hs 5 (.reg .b)
  | .bit5C, hf, _ => h.bitOperand (hf rfl) hs 5 (.reg .c)
  | .bit5D, hf, _ => h.bitOperand (hf rfl) hs 5 (.reg .d)
  | .bit5E, hf, _ => h.bitOperand (hf rfl) hs 5 (.reg .e)
  | .bit5H, hf, _ => h.bitOperand (hf rfl) hs 5 (.reg .h)
  | .bit5L, hf, _ => h.bitOperand (hf rfl) hs 5 (.reg .l)
  | .bit5AtHl, hf, _ => h.bitOperand (hf rfl) hs 5 .atHl
  | .bit5A, hf, _ => h.bitOperand (hf rfl) hs 5 (.reg .a)
  | .bit6B, hf, _ => h.bitOperand (hf rfl) hs 6 (.reg .b)
  | .bit6C, hf, _ => h.bitOperand (hf rfl) hs 6 (.reg .c)
  | .bit6D, hf, _ => h.bitOperand (hf rfl) hs 6 (.reg .d)
  | .bit6E, hf, _ => h.bitOperand (hf rfl) hs 6 (.reg .e)
  | .bit6H, hf, _ => h.bitOperand (hf rfl) hs 6 (.reg .h)
  | .bit6L, hf, _ => h.bitOperand (hf rfl) hs 6 (.reg .l)
  | .bit6AtHl, hf, _ => h.bitOperand (hf rfl) hs 6 .atHl
  | .bit6A, hf, _ => h.bitOperand (hf rfl) hs 6 (.reg .a)
  | .bit7B, hf, _ => h.bitOperand (hf rfl) hs 7 (.reg .b)
  | .bit7C, hf, _ => h.bitOperand (hf rfl) hs 7 (.reg .c)
  | .bit7D, hf, _ => h.bitOperand (hf rfl) hs 7 (.reg .d)
  | .bit7E, hf, _ => h.bitOperand (hf rfl) hs 7 (.reg .e)
  | .bit7H, hf, _ => h.bitOperand (hf rfl) hs 7 (.reg .h)
  | .bit7L, hf, _ => h.bitOperand (hf rfl) hs 7 (.reg .l)
  | .bit7AtHl, hf, _ => h.bitOperand (hf rfl) hs 7 .atHl
  | .bit7A, hf, _ => h.bitOperand (hf rfl) hs 7 (.reg .a)
  | .res0B, _, _ => h.resOperand hs 0 (.reg .b)
  | .res0C, _, _ => h.resOperand hs 0 (.reg .c)
  | .res0D, _, _ => h.resOperand hs 0 (.reg .d)
  | .res0E, _, _ => h.resOperand hs 0 (.reg .e)
  | .res0H, _, _ => h.resOperand hs 0 (.reg .h)
  | .res0L, _, _ => h.resOperand hs 0 (.reg .l)
  | .res0AtHl, _, _ => h.resOperand hs 0 .atHl
  | .res0A, _, _ => h.resOperand hs 0 (.reg .a)
  | .res1B, _, _ => h.resOperand hs 1 (.reg .b)
  | .res1C, _, _ => h.resOperand hs 1 (.reg .c)
  | .res1D, _, _ => h.resOperand hs 1 (.reg .d)
  | .res1E, _, _ => h.resOperand hs 1 (.reg .e)
  | .res1H, _, _ => h.resOperand hs 1 (.reg .h)
  | .res1L, _, _ => h.resOperand hs 1 (.reg .l)
  | .res1AtHl, _, _ => h.resOperand hs 1 .atHl
  | .res1A, _, _ => h.resOperand hs 1 (.reg .a)
  | .res2B, _, _ => h.resOperand hs 2 (.reg .b)
  | .res2C, _, _ => h.resOperand hs 2 (.reg .c)
  | .res2D, _, _ => h.resOperand hs 2 (.reg .d)
  | .res2E, _, _ => h.resOperand hs 2 (.reg .e)
  | .res2H, _, _ => h.resOperand hs 2 (.reg .h)
  | .res2L, _, _ => h.resOperand hs 2 (.reg .l)
  | .res2AtHl, _, _ => h.resOperand hs 2 .atHl
  | .res2A, _, _ => h.resOperand hs 2 (.reg .a)
  | .res3B, _, _ => h.resOperand hs 3 (.reg .b)
  | .res3C, _, _ => h.resOperand hs 3 (.reg .c)
  | .res3D, _, _ => h.resOperand hs 3 (.reg .d)
  | .res3E, _, _ => h.resOperand hs 3 (.reg .e)
  | .res3H, _, _ => h.resOperand hs 3 (.reg .h)
  | .res3L, _, _ => h.resOperand hs 3 (.reg .l)
  | .res3AtHl, _, _ => h.resOperand hs 3 .atHl
  | .res3A, _, _ => h.resOperand hs 3 (.reg .a)
  | .res4B, _, _ => h.resOperand hs 4 (.reg .b)
  | .res4C, _, _ => h.resOperand hs 4 (.reg .c)
  | .res4D, _, _ => h.resOperand hs 4 (.reg .d)
  | .res4E, _, _ => h.resOperand hs 4 (.reg .e)
  | .res4H, _, _ => h.resOperand hs 4 (.reg .h)
  | .res4L, _, _ => h.resOperand hs 4 (.reg .l)
  | .res4AtHl, _, _ => h.resOperand hs 4 .atHl
  | .res4A, _, _ => h.resOperand hs 4 (.reg .a)
  | .res5B, _, _ => h.resOperand hs 5 (.reg .b)
  | .res5C, _, _ => h.resOperand hs 5 (.reg .c)
  | .res5D, _, _ => h.resOperand hs 5 (.reg .d)
  | .res5E, _, _ => h.resOperand hs 5 (.reg .e)
  | .res5H, _, _ => h.resOperand hs 5 (.reg .h)
  | .res5L, _, _ => h.resOperand hs 5 (.reg .l)
  | .res5AtHl, _, _ => h.resOperand hs 5 .atHl
  | .res5A, _, _ => h.resOperand hs 5 (.reg .a)
  | .res6B, _, _ => h.resOperand hs 6 (.reg .b)
  | .res6C, _, _ => h.resOperand hs 6 (.reg .c)
  | .res6D, _, _ => h.resOperand hs 6 (.reg .d)
  | .res6E, _, _ => h.resOperand hs 6 (.reg .e)
  | .res6H, _, _ => h.resOperand hs 6 (.reg .h)
  | .res6L, _, _ => h.resOperand hs 6 (.reg .l)
  | .res6AtHl, _, _ => h.resOperand hs 6 .atHl
  | .res6A, _, _ => h.resOperand hs 6 (.reg .a)
  | .res7B, _, _ => h.resOperand hs 7 (.reg .b)
  | .res7C, _, _ => h.resOperand hs 7 (.reg .c)
  | .res7D, _, _ => h.resOperand hs 7 (.reg .d)
  | .res7E, _, _ => h.resOperand hs 7 (.reg .e)
  | .res7H, _, _ => h.resOperand hs 7 (.reg .h)
  | .res7L, _, _ => h.resOperand hs 7 (.reg .l)
  | .res7AtHl, _, _ => h.resOperand hs 7 .atHl
  | .res7A, _, _ => h.resOperand hs 7 (.reg .a)
  | .set0B, _, _ => h.setOperand hs 0 (.reg .b)
  | .set0C, _, _ => h.setOperand hs 0 (.reg .c)
  | .set0D, _, _ => h.setOperand hs 0 (.reg .d)
  | .set0E, _, _ => h.setOperand hs 0 (.reg .e)
  | .set0H, _, _ => h.setOperand hs 0 (.reg .h)
  | .set0L, _, _ => h.setOperand hs 0 (.reg .l)
  | .set0AtHl, _, _ => h.setOperand hs 0 .atHl
  | .set0A, _, _ => h.setOperand hs 0 (.reg .a)
  | .set1B, _, _ => h.setOperand hs 1 (.reg .b)
  | .set1C, _, _ => h.setOperand hs 1 (.reg .c)
  | .set1D, _, _ => h.setOperand hs 1 (.reg .d)
  | .set1E, _, _ => h.setOperand hs 1 (.reg .e)
  | .set1H, _, _ => h.setOperand hs 1 (.reg .h)
  | .set1L, _, _ => h.setOperand hs 1 (.reg .l)
  | .set1AtHl, _, _ => h.setOperand hs 1 .atHl
  | .set1A, _, _ => h.setOperand hs 1 (.reg .a)
  | .set2B, _, _ => h.setOperand hs 2 (.reg .b)
  | .set2C, _, _ => h.setOperand hs 2 (.reg .c)
  | .set2D, _, _ => h.setOperand hs 2 (.reg .d)
  | .set2E, _, _ => h.setOperand hs 2 (.reg .e)
  | .set2H, _, _ => h.setOperand hs 2 (.reg .h)
  | .set2L, _, _ => h.setOperand hs 2 (.reg .l)
  | .set2AtHl, _, _ => h.setOperand hs 2 .atHl
  | .set2A, _, _ => h.setOperand hs 2 (.reg .a)
  | .set3B, _, _ => h.setOperand hs 3 (.reg .b)
  | .set3C, _, _ => h.setOperand hs 3 (.reg .c)
  | .set3D, _, _ => h.setOperand hs 3 (.reg .d)
  | .set3E, _, _ => h.setOperand hs 3 (.reg .e)
  | .set3H, _, _ => h.setOperand hs 3 (.reg .h)
  | .set3L, _, _ => h.setOperand hs 3 (.reg .l)
  | .set3AtHl, _, _ => h.setOperand hs 3 .atHl
  | .set3A, _, _ => h.setOperand hs 3 (.reg .a)
  | .set4B, _, _ => h.setOperand hs 4 (.reg .b)
  | .set4C, _, _ => h.setOperand hs 4 (.reg .c)
  | .set4D, _, _ => h.setOperand hs 4 (.reg .d)
  | .set4E, _, _ => h.setOperand hs 4 (.reg .e)
  | .set4H, _, _ => h.setOperand hs 4 (.reg .h)
  | .set4L, _, _ => h.setOperand hs 4 (.reg .l)
  | .set4AtHl, _, _ => h.setOperand hs 4 .atHl
  | .set4A, _, _ => h.setOperand hs 4 (.reg .a)
  | .set5B, _, _ => h.setOperand hs 5 (.reg .b)
  | .set5C, _, _ => h.setOperand hs 5 (.reg .c)
  | .set5D, _, _ => h.setOperand hs 5 (.reg .d)
  | .set5E, _, _ => h.setOperand hs 5 (.reg .e)
  | .set5H, _, _ => h.setOperand hs 5 (.reg .h)
  | .set5L, _, _ => h.setOperand hs 5 (.reg .l)
  | .set5AtHl, _, _ => h.setOperand hs 5 .atHl
  | .set5A, _, _ => h.setOperand hs 5 (.reg .a)
  | .set6B, _, _ => h.setOperand hs 6 (.reg .b)
  | .set6C, _, _ => h.setOperand hs 6 (.reg .c)
  | .set6D, _, _ => h.setOperand hs 6 (.reg .d)
  | .set6E, _, _ => h.setOperand hs 6 (.reg .e)
  | .set6H, _, _ => h.setOperand hs 6 (.reg .h)
  | .set6L, _, _ => h.setOperand hs 6 (.reg .l)
  | .set6AtHl, _, _ => h.setOperand hs 6 .atHl
  | .set6A, _, _ => h.setOperand hs 6 (.reg .a)
  | .set7B, _, _ => h.setOperand hs 7 (.reg .b)
  | .set7C, _, _ => h.setOperand hs 7 (.reg .c)
  | .set7D, _, _ => h.setOperand hs 7 (.reg .d)
  | .set7E, _, _ => h.setOperand hs 7 (.reg .e)
  | .set7H, _, _ => h.setOperand hs 7 (.reg .h)
  | .set7L, _, _ => h.setOperand hs 7 (.reg .l)
  | .set7AtHl, _, _ => h.setOperand hs 7 .atHl
  | .set7A, _, _ => h.setOperand hs 7 (.reg .a)

/-- Every instruction keeps a property that its operations keep. -/
theorem ExecInvariant.exec (h : ExecInvariant M F) (i : Instr) {s : State} (hs : M s) :
    Result.Ends (Carries M F) (exec i s) :=
  h.plain.exec hs i (fun _ => h.flags) (fun hi => by
    rcases hi with rfl | rfl | ⟨n8, rfl⟩
    · exact h.haltCpu hs
    · exact h.carries (h.ime false hs)
    · exact h.stop hs)

/-! ### The fetch and the end of a step -/

theorem ExecInvariant.afterOpcodeFetch (h : ExecInvariant M F) {s : State} (hs : M s) : M s.afterOpcodeFetch := by
  unfold State.afterOpcodeFetch
  split
  · exact h.haltBug false hs
  · exact h.regs _ hs

theorem ExecInvariant.fetch8Then (h : ExecInvariant M F) {s : State} (hs : M s) {k : Byte → State → Result}
    (hk : ∀ v t, M t → (k v t).Ends (Carries M F)) : (fetch8Then k s).Ends (Carries M F) :=
  h.readThen hs _ (fun v _ ht => hk v _ (h.regs _ ht))

theorem ExecInvariant.fetchInstrThen (h : ExecInvariant M F) {s : State} (hs : M s) {k : Instr → State → Result}
    (hk : ∀ i t, M t → (k i t).Ends (Carries M F)) : (fetchInstrThen k s).Ends (Carries M F) := by
  unfold Machine.fetchInstrThen opcodeFetchThen
  refine h.readThen hs _ (fun b0 t ht => ?_)
  have ha := h.afterOpcodeFetch ht
  simp only
  split
  · exact h.fetch8Then ha (fun _ _ hu => h.fetch8Then hu (fun _ _ hv => hk _ _ hv))
  · exact h.fetch8Then ha (fun _ _ hu => hk _ _ hu)
  · exact hk _ _ ha

theorem ExecInvariant.completeStep (h : ExecInvariant M F) {r : Result} (hr : r.Ends (Carries M F)) :
    (completeStep r).Ends (Carries M F) := by
  cases r with
  | fault f => trivial
  | refused f => trivial
  | next s =>
    unfold Machine.completeStep
    simp only
    split
    · exact hr
    · rename_i hb
      have hm : M s := by
        rcases hr with ⟨h1, -⟩ | ⟨-, h2⟩
        · exact (hb h1).elim
        · exact h2
      unfold Machine.chargePendingThen
      split
      · exact h.tickThen hm _ (fun _ ht => h.interruptCheck (h.pending _ ht))
      · exact h.interruptCheck hm

/-- A step keeps a property that its operations keep. -/
theorem ExecInvariant.step (h : ExecInvariant M F) {s : State} (hs : M s.beginExecute) :
    Result.Ends (Carries M F) (step s) := by
  unfold Machine.step
  split
  · trivial
  · exact h.fetchInstrThen hs (fun i _ ht => h.completeStep (h.exec i ht))

/-! ### The halt skip -/

/-- A relation that every tick has, and composes, holds between the ends of the halt skip, but for its failure. -/
theorem haltSkipLoop_induction {R : State → State → Prop} (refl : ∀ s, R s s)
    (trans : ∀ {s t u}, R s t → R t u → R s u) (tick : ∀ s n, R s (s.tick n))
    (stuck : ∀ s, R s (s.raiseFatal .haltSkipStuck)) (n : Nat) (s : State) : R s (haltSkipLoop n s) := by
  induction n generalizing s with
  | zero =>
    unfold haltSkipLoop
    split
    · exact refl s
    · split <;> exact stuck s
  | succ n ih =>
    unfold haltSkipLoop
    split
    · exact refl s
    · split
      · exact stuck s
      · simp only
        split
        · exact tick s _
        · exact trans (tick s _) (ih _)

theorem haltSkipLoop_sameCore (n : Nat) (s : State) : s.SameCore (haltSkipLoop n s) :=
  haltSkipLoop_induction State.SameCore.refl State.SameCore.trans State.tick_sameCore
    (fun _ => ⟨rfl, rfl, rfl, rfl, rfl, rfl, rfl, rfl, rfl⟩) n s

theorem haltSkipLoop_sound {n : Nat} {s : State} (h : s.Sound) : (haltSkipLoop n s).Sound :=
  haltSkipLoop_induction (R := fun s t => s.Sound → t.Sound) (fun _ h => h) (fun h k x => k (h x))
    (fun _ n h => State.tick_sound h.toWf n)
    (fun _ h => ⟨⟨h.1.1, h.1.2, h.1.3, h.1.4, h.1.5, h.1.6, rfl⟩, fun hb => by simp at hb⟩) n s h

/-- The halt skip ends in a fatal condition or with an interrupt available (rule R1050). -/
theorem haltSkipLoop_done (n : Nat) (s : State) :
    (haltSkipLoop n s).broken = true ∨ (haltSkipLoop n s).interruptAvailable = true := by
  induction n generalizing s with
  | zero =>
    unfold haltSkipLoop
    split
    · exact .inr (by assumption)
    · split <;> exact .inl rfl
  | succ n ih =>
    unfold haltSkipLoop
    split
    · exact .inr (by assumption)
    · split
      · exact .inl rfl
      · simp only
        split
        · exact .inl (by assumption)
        · exact ih _

/-! ### The speed switch -/

theorem State.reschedule_sound {s : State} (h : s.Sound) (late : Nat) (e : Event) : (s.reschedule late e).Sound := by
  have hc : (s.cancelEventsById e.id).Sound :=
    ⟨State.cancelEventsById_wf h.toWf e.id, fun hb f hf => h.notOverdue hb f (List.mem_of_mem_filter hf)⟩
  refine ⟨State.addEventRelative_wf hc.toWf _ _ _, ?_⟩
  unfold State.reschedule State.addEventRelative
  split
  · simp
  · intro hb f hf
    simp only [List.mem_append, List.mem_singleton] at hf
    rcases hf with hf | rfl
    · exact hc.notOverdue hb f hf
    · simp

theorem State.rescheduleAll_sound {s : State} (h : s.Sound) (late : Nat) (es : List Event) :
    (s.rescheduleAll late es).Sound := by
  induction es generalizing s with
  | nil => exact h
  | cons e es ih =>
    simp only [State.rescheduleAll]
    split
    · exact State.reschedule_sound h late e
    · exact ih (State.reschedule_sound h late e)

theorem State.rescheduleAll_sameCore (s : State) (late : Nat) (es : List Event) :
    s.SameCore (s.rescheduleAll late es) := by
  induction es generalizing s with
  | nil => exact State.SameCore.refl s
  | cons e es ih =>
    have h : s.SameCore (s.reschedule late e) :=
      State.SameCore.trans (t := s.cancelEventsById e.id) ⟨rfl, rfl, rfl, rfl, rfl, rfl, rfl, rfl, rfl⟩
        (State.addEventRelative_sameCore _ _ _ _)
    simp only [State.rescheduleAll]
    split
    · exact h
    · exact h.trans (ih _)

end Sys2Proof.Machine
end

