-- ==== Sys2Proof/Tests/Slice0.lean ====
section
/-! SUPPORT. The model's own tests: the well-formedness smoke; decode tests whose words are written out from the
encoding rules; one step each on vectors of spec/95_test_vectors.md (the expected values are the file's, not the
model's); and, for every statement with hypotheses, concrete states and operands that meet them. -/

namespace Sys2Proof.Tests

open Sys2Proof Sys2Proof.Machine Sys2Proof.Forms

/-! ### Well-formedness -/

/-- The one ill-formed shape, PREFIX CB, is refused whatever its byte; the secondary instruction is not. -/
theorem test_wellFormed_prefixCb_refused :
    (Instr.prefixCb 0x00).wellFormed = false ∧ (Instr.prefixCb 0xFF).wellFormed = false ∧
      Instr.rlcB.wellFormed = true := by decide

/-- No operand value is ill formed: every field has the width of its place in the encoding. -/
theorem test_wellFormed_operands_accepted :
    (Instr.ldBN8 0xFF).wellFormed = true ∧ (Instr.jpN16 0xFFFF).wellFormed = true ∧
      (Instr.jrE8 0x80).wellFormed = true ∧ (Instr.stop 0x01).wellFormed = true := by decide

/-! ### Decoding: every constructor, by a word written out from its rule -/

/-- Each word decodes to its instruction with nothing left over, and the instruction encodes to the word. -/
def decodesAs (l : List (List Byte × Instr)) : Bool :=
  l.all (fun p => (decode p.1).toOption == some (p.2, []) && encode p.2 == p.1)

/-- LD r,r' is 01 ddd sss (rules R321, R330); 01 110 110 is HALT. -/
theorem test_decode_ldRR : decodesAs
    [([0b01000000], .ldBB), ([0b01000001], .ldBC), ([0b01000010], .ldBD), ([0b01000011], .ldBE),
    ([0b01000100], .ldBH), ([0b01000101], .ldBL), ([0b01000110], .ldBAtHl), ([0b01000111], .ldBA),
    ([0b01001000], .ldCB), ([0b01001001], .ldCC), ([0b01001010], .ldCD), ([0b01001011], .ldCE),
    ([0b01001100], .ldCH), ([0b01001101], .ldCL), ([0b01001110], .ldCAtHl), ([0b01001111], .ldCA),
    ([0b01010000], .ldDB), ([0b01010001], .ldDC), ([0b01010010], .ldDD), ([0b01010011], .ldDE),
    ([0b01010100], .ldDH), ([0b01010101], .ldDL), ([0b01010110], .ldDAtHl), ([0b01010111], .ldDA),
    ([0b01011000], .ldEB), ([0b01011001], .ldEC), ([0b01011010], .ldED), ([0b01011011], .ldEE),
    ([0b01011100], .ldEH), ([0b01011101], .ldEL), ([0b01011110], .ldEAtHl), ([0b01011111], .ldEA),
    ([0b01100000], .ldHB), ([0b01100001], .ldHC), ([0b01100010], .ldHD), ([0b01100011], .ldHE),
    ([0b01100100], .ldHH), ([0b01100101], .ldHL), ([0b01100110], .ldHAtHl), ([0b01100111], .ldHA),
    ([0b01101000], .ldLB), ([0b01101001], .ldLC), ([0b01101010], .ldLD), ([0b01101011], .ldLE),
    ([0b01101100], .ldLH), ([0b01101101], .ldLL), ([0b01101110], .ldLAtHl), ([0b01101111], .ldLA),
    ([0b01110000], .ldAtHlB), ([0b01110001], .ldAtHlC), ([0b01110010], .ldAtHlD), ([0b01110011], .ldAtHlE),
    ([0b01110100], .ldAtHlH), ([0b01110101], .ldAtHlL), ([0b01110110], .halt), ([0b01110111], .ldAtHlA),
    ([0b01111000], .ldAB), ([0b01111001], .ldAC), ([0b01111010], .ldAD), ([0b01111011], .ldAE),
    ([0b01111100], .ldAH), ([0b01111101], .ldAL), ([0b01111110], .ldAAtHl), ([0b01111111], .ldAA)] = true := by decide

/-- LD r,n8 is 00 ddd 110, then the byte. -/
theorem test_decode_ldRN8 : decodesAs
    [([0b00000110, 0x5A], .ldBN8 0x5A), ([0b00001110, 0x5A], .ldCN8 0x5A), ([0b00010110, 0x5A], .ldDN8 0x5A),
    ([0b00011110, 0x5A], .ldEN8 0x5A), ([0b00100110, 0x5A], .ldHN8 0x5A), ([0b00101110, 0x5A], .ldLN8 0x5A),
    ([0b00110110, 0x5A], .ldAtHlN8 0x5A), ([0b00111110, 0x5A], .ldAN8 0x5A)] = true := by decide

/-- INC r is 00 rrr 100 and DEC r is 00 rrr 101. -/
theorem test_decode_incDecR : decodesAs
    [([0b00000100], .incB), ([0b00000101], .decB), ([0b00001100], .incC), ([0b00001101], .decC),
    ([0b00010100], .incD), ([0b00010101], .decD), ([0b00011100], .incE), ([0b00011101], .decE),
    ([0b00100100], .incH), ([0b00100101], .decH), ([0b00101100], .incL), ([0b00101101], .decL),
    ([0b00110100], .incAtHl), ([0b00110101], .decAtHl), ([0b00111100], .incA), ([0b00111101], .decA)] = true := by decide

/-- The accumulator operations are 10 yyy zzz. -/
theorem test_decode_aluR : decodesAs
    [([0b10000000], .addAB), ([0b10000001], .addAC), ([0b10000010], .addAD), ([0b10000011], .addAE),
    ([0b10000100], .addAH), ([0b10000101], .addAL), ([0b10000110], .addAAtHl), ([0b10000111], .addAA),
    ([0b10001000], .adcAB), ([0b10001001], .adcAC), ([0b10001010], .adcAD), ([0b10001011], .adcAE),
    ([0b10001100], .adcAH), ([0b10001101], .adcAL), ([0b10001110], .adcAAtHl), ([0b10001111], .adcAA),
    ([0b10010000], .subAB), ([0b10010001], .subAC), ([0b10010010], .subAD), ([0b10010011], .subAE),
    ([0b10010100], .subAH), ([0b10010101], .subAL), ([0b10010110], .subAAtHl), ([0b10010111], .subAA),
    ([0b10011000], .sbcAB), ([0b10011001], .sbcAC), ([0b10011010], .sbcAD), ([0b10011011], .sbcAE),
    ([0b10011100], .sbcAH), ([0b10011101], .sbcAL), ([0b10011110], .sbcAAtHl), ([0b10011111], .sbcAA),
    ([0b10100000], .andAB), ([0b10100001], .andAC), ([0b10100010], .andAD), ([0b10100011], .andAE),
    ([0b10100100], .andAH), ([0b10100101], .andAL), ([0b10100110], .andAAtHl), ([0b10100111], .andAA),
    ([0b10101000], .xorAB), ([0b10101001], .xorAC), ([0b10101010], .xorAD), ([0b10101011], .xorAE),
    ([0b10101100], .xorAH), ([0b10101101], .xorAL), ([0b10101110], .xorAAtHl), ([0b10101111], .xorAA),
    ([0b10110000], .orAB), ([0b10110001], .orAC), ([0b10110010], .orAD), ([0b10110011], .orAE),
    ([0b10110100], .orAH), ([0b10110101], .orAL), ([0b10110110], .orAAtHl), ([0b10110111], .orAA),
    ([0b10111000], .cpAB), ([0b10111001], .cpAC), ([0b10111010], .cpAD), ([0b10111011], .cpAE),
    ([0b10111100], .cpAH), ([0b10111101], .cpAL), ([0b10111110], .cpAAtHl), ([0b10111111], .cpAA)] = true := by decide

/-- The accumulator operations on an immediate are 11 yyy 110, then the byte. -/
theorem test_decode_aluN8 : decodesAs
    [([0b11000110, 0x5A], .addAN8 0x5A), ([0b11001110, 0x5A], .adcAN8 0x5A), ([0b11010110, 0x5A], .subAN8 0x5A),
    ([0b11011110, 0x5A], .sbcAN8 0x5A), ([0b11100110, 0x5A], .andAN8 0x5A), ([0b11101110, 0x5A], .xorAN8 0x5A),
    ([0b11110110, 0x5A], .orAN8 0x5A), ([0b11111110, 0x5A], .cpAN8 0x5A)] = true := by decide

/-- LD rr,n16 is 00 pp0 001 with the low byte first, INC rr 00 pp0 011, DEC rr 00 pp1 011, ADD HL,rr 00 pp1 001. -/
theorem test_decode_pairs : decodesAs
    [([0b00000001, 0x34, 0x12], .ldBcN16 0x1234), ([0b00010001, 0x34, 0x12], .ldDeN16 0x1234),
    ([0b00100001, 0x34, 0x12], .ldHlN16 0x1234), ([0b00110001, 0x34, 0x12], .ldSpN16 0x1234),
    ([0b00000011], .incBc), ([0b00010011], .incDe), ([0b00100011], .incHl), ([0b00110011], .incSp),
    ([0b00001011], .decBc), ([0b00011011], .decDe), ([0b00101011], .decHl), ([0b00111011], .decSp),
    ([0b00001001], .addHlBc), ([0b00011001], .addHlDe), ([0b00101001], .addHlHl), ([0b00111001], .addHlSp)] = true := by decide

/-- PUSH rr is 11 pp0 101, POP rr 11 pp0 001, RST 11 ttt 111. -/
theorem test_decode_stack : decodesAs
    [([0b11000101], .pushBc), ([0b11010101], .pushDe), ([0b11100101], .pushHl), ([0b11110101], .pushAf),
    ([0b11000001], .popBc), ([0b11010001], .popDe), ([0b11100001], .popHl), ([0b11110001], .popAf),
    ([0b11000111], .rst00), ([0b11001111], .rst08), ([0b11010111], .rst10), ([0b11011111], .rst18),
    ([0b11100111], .rst20), ([0b11101111], .rst28), ([0b11110111], .rst30), ([0b11111111], .rst38)] = true := by decide

/-- JR cc is 00 1cc 000, RET cc 11 0cc 000, JP cc 11 0cc 010, CALL cc 11 0cc 100. -/
theorem test_decode_conditional : decodesAs
    [([0b00100000, 0x5A], .jrNzE8 0x5A), ([0b00101000, 0x5A], .jrZE8 0x5A), ([0b00110000, 0x5A], .jrNcE8 0x5A),
    ([0b00111000, 0x5A], .jrCE8 0x5A), ([0b11000000], .retNz), ([0b11001000], .retZ), ([0b11010000], .retNc),
    ([0b11011000], .retC), ([0b11000010, 0x34, 0x12], .jpNzN16 0x1234),
    ([0b11001010, 0x34, 0x12], .jpZN16 0x1234), ([0b11010010, 0x34, 0x12], .jpNcN16 0x1234),
    ([0b11011010, 0x34, 0x12], .jpCN16 0x1234), ([0b11000100, 0x34, 0x12], .callNzN16 0x1234),
    ([0b11001100, 0x34, 0x12], .callZN16 0x1234), ([0b11010100, 0x34, 0x12], .callNcN16 0x1234),
    ([0b11011100, 0x34, 0x12], .callCN16 0x1234)] = true := by decide

/-- The loads and stores of A through a pair, the high page and an address (rule R340). -/
theorem test_decode_loadsA : decodesAs
    [([0x02], .ldAtBcA), ([0x12], .ldAtDeA), ([0x22], .ldAtHlIncA), ([0x32], .ldAtHlDecA), ([0x0A], .ldAAtBc),
    ([0x1A], .ldAAtDe), ([0x2A], .ldAAtHlInc), ([0x3A], .ldAAtHlDec), ([0xE0, 0x5A], .ldhAtN8A 0x5A),
    ([0xF0, 0x5A], .ldhAAtN8 0x5A), ([0xE2], .ldhAtCA), ([0xF2], .ldhAAtC),
    ([0xEA, 0x34, 0x12], .ldAtN16A 0x1234), ([0xFA, 0x34, 0x12], .ldAAtN16 0x1234)] = true := by decide

/-- The opcodes with one cell of rule R340 each. -/
theorem test_decode_single : decodesAs
    [([0x00], .nop), ([0x07], .rlca), ([0x0F], .rrca), ([0x17], .rla), ([0x1F], .rra),
    ([0x08, 0x34, 0x12], .ldAtN16Sp 0x1234), ([0x10, 0x5A], .stop 0x5A), ([0x18, 0x5A], .jrE8 0x5A),
    ([0x27], .daa), ([0x2F], .cpl), ([0x37], .scf), ([0x3F], .ccf), ([0xC3, 0x34, 0x12], .jpN16 0x1234),
    ([0xC9], .ret), ([0xCD, 0x34, 0x12], .callN16 0x1234), ([0xD9], .reti), ([0xE8, 0x5A], .addSpE8 0x5A),
    ([0xE9], .jpHl), ([0xF3], .di), ([0xF8, 0x5A], .ldHlSpE8 0x5A), ([0xF9], .ldSpHl), ([0xFB], .ei)] = true := by decide

/-- The eleven illegal opcodes of rule R350. -/
theorem test_decode_illegal : decodesAs
    [([0xD3], .illegalD3), ([0xDB], .illegalDB), ([0xDD], .illegalDD), ([0xE3], .illegalE3),
    ([0xE4], .illegalE4), ([0xEB], .illegalEB), ([0xEC], .illegalEC), ([0xED], .illegalED),
    ([0xF4], .illegalF4), ([0xFC], .illegalFC), ([0xFD], .illegalFD)] = true := by decide

/-- 0xCB, then 00 yyy zzz: the rotates and shifts (rule R322). -/
theorem test_decode_cbRotate : decodesAs
    [([0xCB, 0b00000000], .rlcB), ([0xCB, 0b00000001], .rlcC), ([0xCB, 0b00000010], .rlcD),
    ([0xCB, 0b00000011], .rlcE), ([0xCB, 0b00000100], .rlcH), ([0xCB, 0b00000101], .rlcL),
    ([0xCB, 0b00000110], .rlcAtHl), ([0xCB, 0b00000111], .rlcA), ([0xCB, 0b00001000], .rrcB),
    ([0xCB, 0b00001001], .rrcC), ([0xCB, 0b00001010], .rrcD), ([0xCB, 0b00001011], .rrcE),
    ([0xCB, 0b00001100], .rrcH), ([0xCB, 0b00001101], .rrcL), ([0xCB, 0b00001110], .rrcAtHl),
    ([0xCB, 0b00001111], .rrcA), ([0xCB, 0b00010000], .rlB), ([0xCB, 0b00010001], .rlC),
    ([0xCB, 0b00010010], .rlD), ([0xCB, 0b00010011], .rlE), ([0xCB, 0b00010100], .rlH),
    ([0xCB, 0b00010101], .rlL), ([0xCB, 0b00010110], .rlAtHl), ([0xCB, 0b00010111], .rlA),
    ([0xCB, 0b00011000], .rrB), ([0xCB, 0b00011001], .rrC), ([0xCB, 0b00011010], .rrD),
    ([0xCB, 0b00011011], .rrE), ([0xCB, 0b00011100], .rrH), ([0xCB, 0b00011101], .rrL),
    ([0xCB, 0b00011110], .rrAtHl), ([0xCB, 0b00011111], .rrA), ([0xCB, 0b00100000], .slaB),
    ([0xCB, 0b00100001], .slaC), ([0xCB, 0b00100010], .slaD), ([0xCB, 0b00100011], .slaE),
    ([0xCB, 0b00100100], .slaH), ([0xCB, 0b00100101], .slaL), ([0xCB, 0b00100110], .slaAtHl),
    ([0xCB, 0b00100111], .slaA), ([0xCB, 0b00101000], .sraB), ([0xCB, 0b00101001], .sraC),
    ([0xCB, 0b00101010], .sraD), ([0xCB, 0b00101011], .sraE), ([0xCB, 0b00101100], .sraH),
    ([0xCB, 0b00101101], .sraL), ([0xCB, 0b00101110], .sraAtHl), ([0xCB, 0b00101111], .sraA),
    ([0xCB, 0b00110000], .swapB), ([0xCB, 0b00110001], .swapC), ([0xCB, 0b00110010], .swapD),
    ([0xCB, 0b00110011], .swapE), ([0xCB, 0b00110100], .swapH), ([0xCB, 0b00110101], .swapL),
    ([0xCB, 0b00110110], .swapAtHl), ([0xCB, 0b00110111], .swapA), ([0xCB, 0b00111000], .srlB),
    ([0xCB, 0b00111001], .srlC), ([0xCB, 0b00111010], .srlD), ([0xCB, 0b00111011], .srlE),
    ([0xCB, 0b00111100], .srlH), ([0xCB, 0b00111101], .srlL), ([0xCB, 0b00111110], .srlAtHl),
    ([0xCB, 0b00111111], .srlA)] = true := by decide

/-- 0xCB, then 01 bbb zzz: BIT b (rule R322). -/
theorem test_decode_cbBit : decodesAs
    [([0xCB, 0b01000000], .bit0B), ([0xCB, 0b01000001], .bit0C), ([0xCB, 0b01000010], .bit0D),
    ([0xCB, 0b01000011], .bit0E), ([0xCB, 0b01000100], .bit0H), ([0xCB, 0b01000101], .bit0L),
    ([0xCB, 0b01000110], .bit0AtHl), ([0xCB, 0b01000111], .bit0A), ([0xCB, 0b01001000], .bit1B),
    ([0xCB, 0b01001001], .bit1C), ([0xCB, 0b01001010], .bit1D), ([0xCB, 0b01001011], .bit1E),
    ([0xCB, 0b01001100], .bit1H), ([0xCB, 0b01001101], .bit1L), ([0xCB, 0b01001110], .bit1AtHl),
    ([0xCB, 0b01001111], .bit1A), ([0xCB, 0b01010000], .bit2B), ([0xCB, 0b01010001], .bit2C),
    ([0xCB, 0b01010010], .bit2D), ([0xCB, 0b01010011], .bit2E), ([0xCB, 0b01010100], .bit2H),
    ([0xCB, 0b01010101], .bit2L), ([0xCB, 0b01010110], .bit2AtHl), ([0xCB, 0b01010111], .bit2A),
    ([0xCB, 0b01011000], .bit3B), ([0xCB, 0b01011001], .bit3C), ([0xCB, 0b01011010], .bit3D),
    ([0xCB, 0b01011011], .bit3E), ([0xCB, 0b01011100], .bit3H), ([0xCB, 0b01011101], .bit3L),
    ([0xCB, 0b01011110], .bit3AtHl), ([0xCB, 0b01011111], .bit3A), ([0xCB, 0b01100000], .bit4B),
    ([0xCB, 0b01100001], .bit4C), ([0xCB, 0b01100010], .bit4D), ([0xCB, 0b01100011], .bit4E),
    ([0xCB, 0b01100100], .bit4H), ([0xCB, 0b01100101], .bit4L), ([0xCB, 0b01100110], .bit4AtHl),
    ([0xCB, 0b01100111], .bit4A), ([0xCB, 0b01101000], .bit5B), ([0xCB, 0b01101001], .bit5C),
    ([0xCB, 0b01101010], .bit5D), ([0xCB, 0b01101011], .bit5E), ([0xCB, 0b01101100], .bit5H),
    ([0xCB, 0b01101101], .bit5L), ([0xCB, 0b01101110], .bit5AtHl), ([0xCB, 0b01101111], .bit5A),
    ([0xCB, 0b01110000], .bit6B), ([0xCB, 0b01110001], .bit6C), ([0xCB, 0b01110010], .bit6D),
    ([0xCB, 0b01110011], .bit6E), ([0xCB, 0b01110100], .bit6H), ([0xCB, 0b01110101], .bit6L),
    ([0xCB, 0b01110110], .bit6AtHl), ([0xCB, 0b01110111], .bit6A), ([0xCB, 0b01111000], .bit7B),
    ([0xCB, 0b01111001], .bit7C), ([0xCB, 0b01111010], .bit7D), ([0xCB, 0b01111011], .bit7E),
    ([0xCB, 0b01111100], .bit7H), ([0xCB, 0b01111101], .bit7L), ([0xCB, 0b01111110], .bit7AtHl),
    ([0xCB, 0b01111111], .bit7A)] = true := by decide

/-- 0xCB, then 10 bbb zzz: RES b (rule R322). -/
theorem test_decode_cbRes : decodesAs
    [([0xCB, 0b10000000], .res0B), ([0xCB, 0b10000001], .res0C), ([0xCB, 0b10000010], .res0D),
    ([0xCB, 0b10000011], .res0E), ([0xCB, 0b10000100], .res0H), ([0xCB, 0b10000101], .res0L),
    ([0xCB, 0b10000110], .res0AtHl), ([0xCB, 0b10000111], .res0A), ([0xCB, 0b10001000], .res1B),
    ([0xCB, 0b10001001], .res1C), ([0xCB, 0b10001010], .res1D), ([0xCB, 0b10001011], .res1E),
    ([0xCB, 0b10001100], .res1H), ([0xCB, 0b10001101], .res1L), ([0xCB, 0b10001110], .res1AtHl),
    ([0xCB, 0b10001111], .res1A), ([0xCB, 0b10010000], .res2B), ([0xCB, 0b10010001], .res2C),
    ([0xCB, 0b10010010], .res2D), ([0xCB, 0b10010011], .res2E), ([0xCB, 0b10010100], .res2H),
    ([0xCB, 0b10010101], .res2L), ([0xCB, 0b10010110], .res2AtHl), ([0xCB, 0b10010111], .res2A),
    ([0xCB, 0b10011000], .res3B), ([0xCB, 0b10011001], .res3C), ([0xCB, 0b10011010], .res3D),
    ([0xCB, 0b10011011], .res3E), ([0xCB, 0b10011100], .res3H), ([0xCB, 0b10011101], .res3L),
    ([0xCB, 0b10011110], .res3AtHl), ([0xCB, 0b10011111], .res3A), ([0xCB, 0b10100000], .res4B),
    ([0xCB, 0b10100001], .res4C), ([0xCB, 0b10100010], .res4D), ([0xCB, 0b10100011], .res4E),
    ([0xCB, 0b10100100], .res4H), ([0xCB, 0b10100101], .res4L), ([0xCB, 0b10100110], .res4AtHl),
    ([0xCB, 0b10100111], .res4A), ([0xCB, 0b10101000], .res5B), ([0xCB, 0b10101001], .res5C),
    ([0xCB, 0b10101010], .res5D), ([0xCB, 0b10101011], .res5E), ([0xCB, 0b10101100], .res5H),
    ([0xCB, 0b10101101], .res5L), ([0xCB, 0b10101110], .res5AtHl), ([0xCB, 0b10101111], .res5A),
    ([0xCB, 0b10110000], .res6B), ([0xCB, 0b10110001], .res6C), ([0xCB, 0b10110010], .res6D),
    ([0xCB, 0b10110011], .res6E), ([0xCB, 0b10110100], .res6H), ([0xCB, 0b10110101], .res6L),
    ([0xCB, 0b10110110], .res6AtHl), ([0xCB, 0b10110111], .res6A), ([0xCB, 0b10111000], .res7B),
    ([0xCB, 0b10111001], .res7C), ([0xCB, 0b10111010], .res7D), ([0xCB, 0b10111011], .res7E),
    ([0xCB, 0b10111100], .res7H), ([0xCB, 0b10111101], .res7L), ([0xCB, 0b10111110], .res7AtHl),
    ([0xCB, 0b10111111], .res7A)] = true := by decide

/-- 0xCB, then 11 bbb zzz: SET b (rule R322). -/
theorem test_decode_cbSet : decodesAs
    [([0xCB, 0b11000000], .set0B), ([0xCB, 0b11000001], .set0C), ([0xCB, 0b11000010], .set0D),
    ([0xCB, 0b11000011], .set0E), ([0xCB, 0b11000100], .set0H), ([0xCB, 0b11000101], .set0L),
    ([0xCB, 0b11000110], .set0AtHl), ([0xCB, 0b11000111], .set0A), ([0xCB, 0b11001000], .set1B),
    ([0xCB, 0b11001001], .set1C), ([0xCB, 0b11001010], .set1D), ([0xCB, 0b11001011], .set1E),
    ([0xCB, 0b11001100], .set1H), ([0xCB, 0b11001101], .set1L), ([0xCB, 0b11001110], .set1AtHl),
    ([0xCB, 0b11001111], .set1A), ([0xCB, 0b11010000], .set2B), ([0xCB, 0b11010001], .set2C),
    ([0xCB, 0b11010010], .set2D), ([0xCB, 0b11010011], .set2E), ([0xCB, 0b11010100], .set2H),
    ([0xCB, 0b11010101], .set2L), ([0xCB, 0b11010110], .set2AtHl), ([0xCB, 0b11010111], .set2A),
    ([0xCB, 0b11011000], .set3B), ([0xCB, 0b11011001], .set3C), ([0xCB, 0b11011010], .set3D),
    ([0xCB, 0b11011011], .set3E), ([0xCB, 0b11011100], .set3H), ([0xCB, 0b11011101], .set3L),
    ([0xCB, 0b11011110], .set3AtHl), ([0xCB, 0b11011111], .set3A), ([0xCB, 0b11100000], .set4B),
    ([0xCB, 0b11100001], .set4C), ([0xCB, 0b11100010], .set4D), ([0xCB, 0b11100011], .set4E),
    ([0xCB, 0b11100100], .set4H), ([0xCB, 0b11100101], .set4L), ([0xCB, 0b11100110], .set4AtHl),
    ([0xCB, 0b11100111], .set4A), ([0xCB, 0b11101000], .set5B), ([0xCB, 0b11101001], .set5C),
    ([0xCB, 0b11101010], .set5D), ([0xCB, 0b11101011], .set5E), ([0xCB, 0b11101100], .set5H),
    ([0xCB, 0b11101101], .set5L), ([0xCB, 0b11101110], .set5AtHl), ([0xCB, 0b11101111], .set5A),
    ([0xCB, 0b11110000], .set6B), ([0xCB, 0b11110001], .set6C), ([0xCB, 0b11110010], .set6D),
    ([0xCB, 0b11110011], .set6E), ([0xCB, 0b11110100], .set6H), ([0xCB, 0b11110101], .set6L),
    ([0xCB, 0b11110110], .set6AtHl), ([0xCB, 0b11110111], .set6A), ([0xCB, 0b11111000], .set7B),
    ([0xCB, 0b11111001], .set7C), ([0xCB, 0b11111010], .set7D), ([0xCB, 0b11111011], .set7E),
    ([0xCB, 0b11111100], .set7H), ([0xCB, 0b11111101], .set7L), ([0xCB, 0b11111110], .set7AtHl),
    ([0xCB, 0b11111111], .set7A)] = true := by decide

/-- A stream that ends inside an instruction is rejected by name (rule R316). -/
theorem test_decode_truncated :
    decode [] = .error .empty ∧ decode [0xCB] = .error (.truncated 2 1) ∧
      decode [0xCD, 0x34] = .error (.truncated 3 2) := by decide

/-- PREFIX CB encodes to the word of the secondary instruction it forwards to (rule R901). -/
theorem test_encode_prefixCb : encode (.prefixCb 0x37) = [0xCB, 0x37] ∧ decode [0xCB, 0x37] = .ok (.swapA, []) := by
  decide

/-- A table word numbered with byte 0 low, and a secondary row's match 0xCBxx. -/
theorem test_decodeTableWord : decodeTableWord 8 0x87 = some .addAA ∧ decodeTableWord 24 0x1234CD = some (.callN16 0x1234)
    ∧ decodeTableWord 16 0xCB37 = some .swapA ∧ decodeTableWord 16 0x37CB = some .swapA := by decide

/-! ### One step on the vectors of spec/95_test_vectors.md -/

/-- A machine with these registers, flags, IE, IF and IME, and these bytes in its memory. -/
def machine (g : Registers) (f : Flags) (ie ifr : Byte) (ime : Bool) (cells : List (Word × Byte)) : State :=
  let s := cells.foldl (fun s c => s.placeByte c.1 c.2) (State.init g f Config.defaultParams Environment.idle)
  { s with ie := ie, ifr := ifr, ime := ime }

/-- One step answers a next state with the property. -/
def after (s : State) (p : State → Bool) : Bool :=
  match step s with
  | .next t => p t
  | _ => false

/-- The bus writes of a state's log, oldest first. -/
def writesOf (s : State) : List (Word × Byte) :=
  s.env.log.reverse.filterMap (fun o =>
    match o with
    | .write _ x v => some (x, v)
    | _ => none)


/-- L1-1a (40_alu8, R410): bytes 80. -/
theorem test_addAB_L1_1a : after (
    machine ⟨0x3A, 0xC6, 0x00, 0x00, 0x00, 0x00, 0x00, 0x0000, 0xC000⟩ ⟨false, false, false, false⟩ 0x00 0xE0 false
      [(0xC000, 0x80)]) (fun t =>
      t.regs.a == 0x00 && t.regs.pc == 0xC001 && t.flags == ⟨true, false, true, true⟩ && t.ticksThisCall == 4) = true := by decide

/-- L1-1b (40_alu8, R413): bytes 8B. -/
theorem test_adcAE_L1_1b : after (
    machine ⟨0xE1, 0x00, 0x00, 0x00, 0x0F, 0x00, 0x00, 0x0000, 0xC000⟩ ⟨false, false, false, true⟩ 0x00 0xE0 false
      [(0xC000, 0x8B)]) (fun t =>
      t.regs.a == 0xF1 && t.regs.pc == 0xC001 && t.flags == ⟨false, false, true, false⟩ && t.ticksThisCall == 4) = true := by decide

/-- L1-1c (40_alu8, R416): bytes 93. -/
theorem test_subAE_L1_1c : after (
    machine ⟨0x3E, 0x00, 0x00, 0x00, 0x3E, 0x00, 0x00, 0x0000, 0xC000⟩ ⟨false, false, false, false⟩ 0x00 0xE0 false
      [(0xC000, 0x93)]) (fun t =>
      t.regs.a == 0x00 && t.regs.pc == 0xC001 && t.flags == ⟨true, true, false, false⟩ && t.ticksThisCall == 4) = true := by decide

/-- L1-1d (40_alu8, R419): bytes 9C. -/
theorem test_sbcAH_L1_1d : after (
    machine ⟨0x3B, 0x00, 0x00, 0x00, 0x00, 0x2A, 0x00, 0x0000, 0xC000⟩ ⟨false, false, false, true⟩ 0x00 0xE0 false
      [(0xC000, 0x9C)]) (fun t =>
      t.regs.a == 0x10 && t.regs.pc == 0xC001 && t.flags == ⟨false, true, false, false⟩ && t.ticksThisCall == 4) = true := by decide

/-- L1-2a (45_system, R900): bytes 00. -/
theorem test_nop_L1_2a : after (
    machine ⟨0x12, 0x00, 0x00, 0x00, 0x00, 0x00, 0x00, 0x0000, 0x0100⟩ ⟨true, false, false, true⟩ 0x00 0xE0 false
      [(0x0100, 0x00)]) (fun t =>
      t.regs.pc == 0x0101 && t.flags == ⟨true, false, false, true⟩ && t.ticksThisCall == 4) = true := by decide

/-- L1-8 (43_control, R720): bytes CD 00 02. -/
theorem test_callN16_L1_8 : after (
    machine ⟨0x00, 0x00, 0x00, 0x00, 0x00, 0x00, 0x00, 0xFFFE, 0x014D⟩ ⟨false, false, false, false⟩ 0x00 0xE0 false
      [(0x014D, 0xCD), (0x014E, 0x00), (0x014F, 0x02)]) (fun t =>
      t.regs.sp == 0xFFFC && t.regs.pc == 0x0200 && t.flags == ⟨false, false, false, false⟩ &&
      t.ticksThisCall == 24 && writesOf t == [(0xFFFD, 0x01), (0xFFFC, 0x50)]) = true := by decide

/-- L1-9 (40_alu8, R410): bytes 87. -/
theorem test_addAA_L1_9 : after (
    machine ⟨0x3C, 0x00, 0x00, 0x00, 0x00, 0x00, 0x00, 0x0000, 0xC000⟩ ⟨false, false, false, false⟩ 0x00 0xE0 false
      [(0xC000, 0x87)]) (fun t =>
      t.regs.a == 0x78 && t.regs.pc == 0xC001 && t.flags == ⟨false, false, true, false⟩ && t.ticksThisCall == 4) = true := by decide

/-- L2-ALU-4 (40_alu8, R413): bytes 89. -/
theorem test_adcAC_L2_ALU_4 : after (
    machine ⟨0xFF, 0x00, 0x00, 0x00, 0x00, 0x00, 0x00, 0x0000, 0xC000⟩ ⟨false, false, false, true⟩ 0x00 0xE0 false
      [(0xC000, 0x89)]) (fun t =>
      t.regs.a == 0x00 && t.regs.pc == 0xC001 && t.flags == ⟨true, false, true, true⟩ && t.ticksThisCall == 4) = true := by decide

/-- L2-ALU-7 (40_alu8, R416): bytes 90. -/
theorem test_subAB_L2_ALU_7 : after (
    machine ⟨0x10, 0x20, 0x00, 0x00, 0x00, 0x00, 0x00, 0x0000, 0xC000⟩ ⟨false, false, false, false⟩ 0x00 0xE0 false
      [(0xC000, 0x90)]) (fun t =>
      t.regs.a == 0xF0 && t.regs.pc == 0xC001 && t.flags == ⟨false, true, false, true⟩ && t.ticksThisCall == 4) = true := by decide

/-- L2-ALU-10 (40_alu8, R419): bytes 98. -/
theorem test_sbcAB_L2_ALU_10 : after (
    machine ⟨0x00, 0xFF, 0x00, 0x00, 0x00, 0x00, 0x00, 0x0000, 0xC000⟩ ⟨false, false, false, true⟩ 0x00 0xE0 false
      [(0xC000, 0x98)]) (fun t =>
      t.regs.a == 0x00 && t.regs.pc == 0xC001 && t.flags == ⟨true, true, true, true⟩ && t.ticksThisCall == 4) = true := by decide

/-- L2-ALU-13 (40_alu8, R422): bytes A0. -/
theorem test_andAB_L2_ALU_13 : after (
    machine ⟨0x5A, 0x3F, 0x00, 0x00, 0x00, 0x00, 0x00, 0x0000, 0xC000⟩ ⟨false, false, false, true⟩ 0x00 0xE0 false
      [(0xC000, 0xA0)]) (fun t =>
      t.regs.a == 0x1A && t.regs.pc == 0xC001 && t.flags == ⟨false, false, true, false⟩ && t.ticksThisCall == 4) = true := by decide

/-- L2-ALU-14 (40_alu8, R424): bytes E6 A5. -/
theorem test_andAN8_L2_ALU_14 : after (
    machine ⟨0x5A, 0x00, 0x00, 0x00, 0x00, 0x00, 0x00, 0x0000, 0xC000⟩ ⟨false, false, false, false⟩ 0x00 0xE0 false
      [(0xC000, 0xE6), (0xC001, 0xA5)]) (fun t =>
      t.regs.a == 0x00 && t.regs.pc == 0xC002 && t.flags == ⟨true, false, true, false⟩ && t.ticksThisCall == 8) = true := by decide

/-- L2-ALU-15 (40_alu8, R425): bytes AF. -/
theorem test_xorAA_L2_ALU_15 : after (
    machine ⟨0x3C, 0x00, 0x00, 0x00, 0x00, 0x00, 0x00, 0x0000, 0xC000⟩ ⟨false, true, true, true⟩ 0x00 0xE0 false
      [(0xC000, 0xAF)]) (fun t =>
      t.regs.a == 0x00 && t.regs.pc == 0xC001 && t.flags == ⟨true, false, false, false⟩ && t.ticksThisCall == 4) = true := by decide

/-- L2-ALU-16 (40_alu8, R426): bytes AE. -/
theorem test_xorAAtHl_L2_ALU_16 : after (
    machine ⟨0xF0, 0x00, 0x00, 0x00, 0x00, 0xC1, 0x00, 0x0000, 0xC000⟩ ⟨false, false, false, false⟩ 0x00 0xE0 false
      [(0xC100, 0xFF), (0xC000, 0xAE)]) (fun t =>
      t.regs.a == 0x0F && t.regs.pc == 0xC001 && t.flags == ⟨false, false, false, false⟩ && t.ticksThisCall == 8) = true := by decide

/-- L2-ALU-17 (40_alu8, R430): bytes F6 00. -/
theorem test_orAN8_L2_ALU_17 : after (
    machine ⟨0x00, 0x00, 0x00, 0x00, 0x00, 0x00, 0x00, 0x0000, 0xC000⟩ ⟨false, false, false, true⟩ 0x00 0xE0 false
      [(0xC000, 0xF6), (0xC001, 0x00)]) (fun t =>
      t.regs.a == 0x00 && t.regs.pc == 0xC002 && t.flags == ⟨true, false, false, false⟩ && t.ticksThisCall == 8) = true := by decide

/-- L2-ALU-18 (40_alu8, R428): bytes B2. -/
theorem test_orAD_L2_ALU_18 : after (
    machine ⟨0x50, 0x00, 0x00, 0x05, 0x00, 0x00, 0x00, 0x0000, 0xC000⟩ ⟨false, false, false, false⟩ 0x00 0xE0 false
      [(0xC000, 0xB2)]) (fun t =>
      t.regs.a == 0x55 && t.regs.pc == 0xC001 && t.flags == ⟨false, false, false, false⟩ && t.ticksThisCall == 4) = true := by decide

/-- L2-ALU-19 (40_alu8, R433): bytes FE 3C. -/
theorem test_cpAN8_L2_ALU_19 : after (
    machine ⟨0x3C, 0x00, 0x00, 0x00, 0x00, 0x00, 0x00, 0x0000, 0xC000⟩ ⟨false, false, false, false⟩ 0x00 0xE0 false
      [(0xC000, 0xFE), (0xC001, 0x3C)]) (fun t =>
      t.regs.a == 0x3C && t.regs.pc == 0xC002 && t.flags == ⟨true, true, false, false⟩ && t.ticksThisCall == 8) = true := by decide

/-- L2-ALU-20 (40_alu8, R431): bytes B8. -/
theorem test_cpAB_L2_ALU_20 : after (
    machine ⟨0x3C, 0x40, 0x00, 0x00, 0x00, 0x00, 0x00, 0x0000, 0xC000⟩ ⟨false, false, false, false⟩ 0x00 0xE0 false
      [(0xC000, 0xB8)]) (fun t =>
      t.regs.a == 0x3C && t.regs.pc == 0xC001 && t.flags == ⟨false, true, false, true⟩ && t.ticksThisCall == 4) = true := by decide

/-- L2-ALU-23 (40_alu8, R440): bytes 04. -/
theorem test_incB_L2_ALU_23 : after (
    machine ⟨0x00, 0xFF, 0x00, 0x00, 0x00, 0x00, 0x00, 0x0000, 0xC000⟩ ⟨false, false, false, true⟩ 0x00 0xE0 false
      [(0xC000, 0x04)]) (fun t =>
      t.regs.b == 0x00 && t.regs.a == 0x00 && t.regs.pc == 0xC001 && t.flags == ⟨true, false, true, true⟩ &&
      t.ticksThisCall == 4) = true := by decide

/-- L2-ALU-24 (40_alu8, R440): bytes 3C. -/
theorem test_incA_L2_ALU_24 : after (
    machine ⟨0x0F, 0x00, 0x00, 0x00, 0x00, 0x00, 0x00, 0x0000, 0xC000⟩ ⟨false, false, false, false⟩ 0x00 0xE0 false
      [(0xC000, 0x3C)]) (fun t =>
      t.regs.a == 0x10 && t.regs.pc == 0xC001 && t.flags == ⟨false, false, true, false⟩ && t.ticksThisCall == 4) = true := by decide

/-- L2-ALU-25 (40_alu8, R442): bytes 0D. -/
theorem test_decC_L2_ALU_25 : after (
    machine ⟨0x00, 0x00, 0x01, 0x00, 0x00, 0x00, 0x00, 0x0000, 0xC000⟩ ⟨false, false, false, true⟩ 0x00 0xE0 false
      [(0xC000, 0x0D)]) (fun t =>
      t.regs.c == 0x00 && t.regs.a == 0x00 && t.regs.pc == 0xC001 && t.flags == ⟨true, true, false, true⟩ &&
      t.ticksThisCall == 4) = true := by decide

/-- L2-ALU-26 (40_alu8, R442): bytes 15. -/
theorem test_decD_L2_ALU_26 : after (
    machine ⟨0x00, 0x00, 0x00, 0x00, 0x00, 0x00, 0x00, 0x0000, 0xC000⟩ ⟨false, false, false, false⟩ 0x00 0xE0 false
      [(0xC000, 0x15)]) (fun t =>
      t.regs.d == 0xFF && t.regs.a == 0x00 && t.regs.pc == 0xC001 && t.flags == ⟨false, true, true, false⟩ &&
      t.ticksThisCall == 4) = true := by decide

/-- L2-ALU-27 (40_alu8, R441): bytes 34. -/
theorem test_incAtHl_L2_ALU_27 : after (
    machine ⟨0x00, 0x00, 0x00, 0x00, 0x00, 0xC1, 0x00, 0x0000, 0xC000⟩ ⟨false, false, false, false⟩ 0x00 0xE0 false
      [(0xC100, 0xFF), (0xC000, 0x34)]) (fun t =>
      t.regs.a == 0x00 && t.regs.pc == 0xC001 && t.flags == ⟨true, false, true, false⟩ &&
      t.ticksThisCall == 12 && writesOf t == [(0xC100, 0x00)]) = true := by decide

/-- L2-ALU-28 (40_alu8, R443): bytes 35. -/
theorem test_decAtHl_L2_ALU_28 : after (
    machine ⟨0x00, 0x00, 0x00, 0x00, 0x00, 0xFF, 0x0F, 0x0000, 0xC000⟩ ⟨false, false, false, false⟩ 0x00 0xE4 false
      [(0xC000, 0x35)]) (fun t =>
      t.regs.a == 0x00 && t.regs.pc == 0xC001 && t.flags == ⟨false, true, false, false⟩ && t.ifr == 0xE3 &&
      t.ticksThisCall == 12 && writesOf t == [(0xFF0F, 0xE3)]) = true := by decide

/-- L2-ALU-29 (40_alu8, R450): bytes 27. -/
theorem test_daa_L2_ALU_29 : after (
    machine ⟨0x7D, 0x00, 0x00, 0x00, 0x00, 0x00, 0x00, 0x0000, 0xC000⟩ ⟨false, false, false, false⟩ 0x00 0xE0 false
      [(0xC000, 0x27)]) (fun t =>
      t.regs.a == 0x83 && t.regs.pc == 0xC001 && t.flags == ⟨false, false, false, false⟩ && t.ticksThisCall == 4) = true := by decide

/-- L2-ALU-36 (40_alu8, R451): bytes 2F. -/
theorem test_cpl_L2_ALU_36 : after (
    machine ⟨0x35, 0x00, 0x00, 0x00, 0x00, 0x00, 0x00, 0x0000, 0xC000⟩ ⟨true, false, false, true⟩ 0x00 0xE0 false
      [(0xC000, 0x2F)]) (fun t =>
      t.regs.a == 0xCA && t.regs.pc == 0xC001 && t.flags == ⟨true, true, true, true⟩ && t.ticksThisCall == 4) = true := by decide

/-- L2-ALU-37 (40_alu8, R452): bytes 37. -/
theorem test_scf_L2_ALU_37 : after (
    machine ⟨0x00, 0x00, 0x00, 0x00, 0x00, 0x00, 0x00, 0x0000, 0xC000⟩ ⟨true, true, true, false⟩ 0x00 0xE0 false
      [(0xC000, 0x37)]) (fun t =>
      t.regs.a == 0x00 && t.regs.pc == 0xC001 && t.flags == ⟨true, false, false, true⟩ && t.ticksThisCall == 4) = true := by decide

/-- L2-ALU-38 (40_alu8, R453): bytes 3F. -/
theorem test_ccf_L2_ALU_38 : after (
    machine ⟨0x00, 0x00, 0x00, 0x00, 0x00, 0x00, 0x00, 0x0000, 0xC000⟩ ⟨false, true, true, true⟩ 0x00 0xE0 false
      [(0xC000, 0x3F)]) (fun t =>
      t.regs.a == 0x00 && t.regs.pc == 0xC001 && t.flags == ⟨false, false, false, false⟩ && t.ticksThisCall == 4) = true := by decide

/-- L2-LD-1 (41_loads, R500): bytes 41. -/
theorem test_ldBC_L2_LD_1 : after (
    machine ⟨0x00, 0x11, 0x22, 0x00, 0x00, 0x00, 0x00, 0x0000, 0xC000⟩ ⟨false, false, false, false⟩ 0x00 0xE0 false
      [(0xC000, 0x41)]) (fun t =>
      t.regs.b == 0x22 && t.regs.pc == 0xC001 && t.flags == ⟨false, false, false, false⟩ && t.ticksThisCall == 4) = true := by decide

/-- L2-LD-2 (41_loads, R500): bytes 7F. -/
theorem test_ldAA_L2_LD_2 : after (
    machine ⟨0x99, 0x00, 0x00, 0x00, 0x00, 0x00, 0x00, 0x0000, 0xC000⟩ ⟨false, false, false, false⟩ 0x00 0xE0 false
      [(0xC000, 0x7F)]) (fun t =>
      t.regs.pc == 0xC001 && t.flags == ⟨false, false, false, false⟩ && t.ticksThisCall == 4) = true := by decide

/-- L2-LD-3 (41_loads, R501): bytes 16 99. -/
theorem test_ldDN8_L2_LD_3 : after (
    machine ⟨0x00, 0x00, 0x00, 0x00, 0x00, 0x00, 0x00, 0x0000, 0xC000⟩ ⟨false, false, false, false⟩ 0x00 0xE0 false
      [(0xC000, 0x16), (0xC001, 0x99)]) (fun t =>
      t.regs.d == 0x99 && t.regs.pc == 0xC002 && t.flags == ⟨false, false, false, false⟩ && t.ticksThisCall == 8) = true := by decide

/-- L2-LD-4 (41_loads, R502): bytes 66. -/
theorem test_ldHAtHl_L2_LD_4 : after (
    machine ⟨0x00, 0x00, 0x00, 0x00, 0x00, 0xC1, 0x23, 0x0000, 0xC000⟩ ⟨false, false, false, false⟩ 0x00 0xE0 false
      [(0xC123, 0x7E), (0xC000, 0x66)]) (fun t =>
      t.regs.h == 0x7E && t.regs.pc == 0xC001 && t.flags == ⟨false, false, false, false⟩ && t.ticksThisCall == 8) = true := by decide

/-- L2-LD-5 (41_loads, R503): bytes 75. -/
theorem test_ldAtHlL_L2_LD_5 : after (
    machine ⟨0x00, 0x00, 0x00, 0x00, 0x00, 0xC1, 0x23, 0x0000, 0xC000⟩ ⟨false, false, false, false⟩ 0x00 0xE0 false
      [(0xC000, 0x75)]) (fun t =>
      t.regs.pc == 0xC001 && t.flags == ⟨false, false, false, false⟩ && t.ticksThisCall == 8 &&
      writesOf t == [(0xC123, 0x23)]) = true := by decide

/-- L2-LD-6 (41_loads, R504): bytes 36 5A. -/
theorem test_ldAtHlN8_L2_LD_6 : after (
    machine ⟨0x00, 0x00, 0x00, 0x00, 0x00, 0xC1, 0x00, 0x0000, 0xC000⟩ ⟨false, false, false, false⟩ 0x00 0xE0 false
      [(0xC000, 0x36), (0xC001, 0x5A)]) (fun t =>
      t.regs.pc == 0xC002 && t.flags == ⟨false, false, false, false⟩ && t.ticksThisCall == 12 &&
      writesOf t == [(0xC100, 0x5A)]) = true := by decide

/-- L2-LD-7 (41_loads, R505): bytes 0A. -/
theorem test_ldAAtBc_L2_LD_7 : after (
    machine ⟨0x00, 0xC2, 0x00, 0x00, 0x00, 0x00, 0x00, 0x0000, 0xC000⟩ ⟨false, false, false, false⟩ 0x00 0xE0 false
      [(0xC200, 0x42), (0xC000, 0x0A)]) (fun t =>
      t.regs.a == 0x42 && t.regs.pc == 0xC001 && t.flags == ⟨false, false, false, false⟩ && t.ticksThisCall == 8) = true := by decide

/-- L2-LD-8 (41_loads, R506): bytes 1A. -/
theorem test_ldAAtDe_L2_LD_8 : after (
    machine ⟨0x00, 0x00, 0x00, 0xC2, 0x01, 0x00, 0x00, 0x0000, 0xC000⟩ ⟨false, false, false, false⟩ 0x00 0xE0 false
      [(0xC201, 0x43), (0xC000, 0x1A)]) (fun t =>
      t.regs.a == 0x43 && t.regs.pc == 0xC001 && t.flags == ⟨false, false, false, false⟩ && t.ticksThisCall == 8) = true := by decide

/-- L2-LD-9 (41_loads, R507): bytes 02. -/
theorem test_ldAtBcA_L2_LD_9 : after (
    machine ⟨0x1F, 0xFF, 0xFF, 0x00, 0x00, 0x00, 0x00, 0x0000, 0xC000⟩ ⟨false, false, false, false⟩ 0x00 0xE0 false
      [(0xC000, 0x02)]) (fun t =>
      t.regs.pc == 0xC001 && t.flags == ⟨false, false, false, false⟩ && t.ie == 0x1F && t.ticksThisCall == 8 &&
      writesOf t == [(0xFFFF, 0x1F)]) = true := by decide

/-- L2-LD-10 (41_loads, R508): bytes 12. -/
theorem test_ldAtDeA_L2_LD_10 : after (
    machine ⟨0x77, 0x00, 0x00, 0xC3, 0x00, 0x00, 0x00, 0x0000, 0xC000⟩ ⟨false, false, false, false⟩ 0x00 0xE0 false
      [(0xC000, 0x12)]) (fun t =>
      t.regs.pc == 0xC001 && t.flags == ⟨false, false, false, false⟩ && t.ticksThisCall == 8 &&
      writesOf t == [(0xC300, 0x77)]) = true := by decide

/-- L2-LD-11 (41_loads, R515): bytes 2A. -/
theorem test_ldAAtHlInc_L2_LD_11 : after (
    machine ⟨0x00, 0x00, 0x00, 0x00, 0x00, 0xFF, 0xFF, 0x0000, 0xC000⟩ ⟨false, false, false, false⟩ 0x15 0xE0 false
      [(0xC000, 0x2A)]) (fun t =>
      t.regs.a == 0x15 && t.regs.h == 0x00 && t.regs.l == 0x00 && t.regs.pc == 0xC001 &&
      t.flags == ⟨false, false, false, false⟩ && t.ticksThisCall == 8) = true := by decide

/-- L2-LD-12 (41_loads, R517): bytes 22. -/
theorem test_ldAtHlIncA_L2_LD_12 : after (
    machine ⟨0x66, 0x00, 0x00, 0x00, 0x00, 0xC1, 0xFF, 0x0000, 0xC000⟩ ⟨false, false, false, false⟩ 0x00 0xE0 false
      [(0xC000, 0x22)]) (fun t =>
      t.regs.h == 0xC2 && t.regs.l == 0x00 && t.regs.pc == 0xC001 && t.flags == ⟨false, false, false, false⟩ &&
      t.ticksThisCall == 8 && writesOf t == [(0xC1FF, 0x66)]) = true := by decide

/-- L2-LD-13 (41_loads, R516): bytes 3A. -/
theorem test_ldAAtHlDec_L2_LD_13 : after (
    machine ⟨0x00, 0x00, 0x00, 0x00, 0x00, 0x00, 0x00, 0x0000, 0xC000⟩ ⟨false, false, false, false⟩ 0x00 0xE0 false
      [(0x0000, 0x3A), (0xC000, 0x3A)]) (fun t =>
      t.regs.a == 0x3A && t.regs.h == 0xFF && t.regs.l == 0xFF && t.regs.pc == 0xC001 &&
      t.flags == ⟨false, false, false, false⟩ && t.ticksThisCall == 8) = true := by decide

/-- L2-LD-14 (41_loads, R518): bytes 32. -/
theorem test_ldAtHlDecA_L2_LD_14 : after (
    machine ⟨0x55, 0x00, 0x00, 0x00, 0x00, 0xC2, 0x00, 0x0000, 0xC000⟩ ⟨false, false, false, false⟩ 0x00 0xE0 false
      [(0xC000, 0x32)]) (fun t =>
      t.regs.h == 0xC1 && t.regs.l == 0xFF && t.regs.pc == 0xC001 && t.flags == ⟨false, false, false, false⟩ &&
      t.ticksThisCall == 8 && writesOf t == [(0xC200, 0x55)]) = true := by decide

/-- L2-LD-15 (41_loads, R514): bytes E0 0F. -/
theorem test_ldhAtN8A_L2_LD_15 : after (
    machine ⟨0x01, 0x00, 0x00, 0x00, 0x00, 0x00, 0x00, 0x0000, 0xC000⟩ ⟨false, false, false, false⟩ 0x00 0xE0 false
      [(0xC000, 0xE0), (0xC001, 0x0F)]) (fun t =>
      t.regs.pc == 0xC002 && t.flags == ⟨false, false, false, false⟩ && t.ifr == 0xE1 &&
      t.ticksThisCall == 12 && writesOf t == [(0xFF0F, 0x01)]) = true := by decide

/-- L2-LD-16 (41_loads, R513): bytes F0 0F. -/
theorem test_ldhAAtN8_L2_LD_16 : after (
    machine ⟨0x00, 0x00, 0x00, 0x00, 0x00, 0x00, 0x00, 0x0000, 0xC000⟩ ⟨false, false, false, false⟩ 0x00 0xE4 false
      [(0xC000, 0xF0), (0xC001, 0x0F)]) (fun t =>
      t.regs.a == 0xE4 && t.regs.pc == 0xC002 && t.flags == ⟨false, false, false, false⟩ &&
      t.ticksThisCall == 12) = true := by decide

/-- L2-LD-17 (41_loads, R512): bytes E2. -/
theorem test_ldhAtCA_L2_LD_17 : after (
    machine ⟨0x1F, 0x00, 0xFF, 0x00, 0x00, 0x00, 0x00, 0x0000, 0xC000⟩ ⟨false, false, false, false⟩ 0x00 0xE0 false
      [(0xC000, 0xE2)]) (fun t =>
      t.regs.pc == 0xC001 && t.flags == ⟨false, false, false, false⟩ && t.ie == 0x1F && t.ticksThisCall == 8 &&
      writesOf t == [(0xFFFF, 0x1F)]) = true := by decide

/-- L2-LD-18 (41_loads, R511): bytes F2. -/
theorem test_ldhAAtC_L2_LD_18 : after (
    machine ⟨0x00, 0x00, 0x80, 0x00, 0x00, 0x00, 0x00, 0x0000, 0xC000⟩ ⟨false, false, false, false⟩ 0x00 0xE0 false
      [(0xFF80, 0xAB), (0xC000, 0xF2)]) (fun t =>
      t.regs.a == 0xAB && t.regs.pc == 0xC001 && t.flags == ⟨false, false, false, false⟩ && t.ticksThisCall == 8) = true := by decide

/-- L2-LD-19 (41_loads, R510): bytes EA 34 C2. -/
theorem test_ldAtN16A_L2_LD_19 : after (
    machine ⟨0x3C, 0x00, 0x00, 0x00, 0x00, 0x00, 0x00, 0x0000, 0xC000⟩ ⟨false, false, false, false⟩ 0x00 0xE0 false
      [(0xC000, 0xEA), (0xC001, 0x34), (0xC002, 0xC2)]) (fun t =>
      t.regs.pc == 0xC003 && t.flags == ⟨false, false, false, false⟩ && t.ticksThisCall == 16 &&
      writesOf t == [(0xC234, 0x3C)]) = true := by decide

/-- L2-LD-20 (41_loads, R509): bytes FA 34 C2. -/
theorem test_ldAAtN16_L2_LD_20 : after (
    machine ⟨0x00, 0x00, 0x00, 0x00, 0x00, 0x00, 0x00, 0x0000, 0xC000⟩ ⟨false, false, false, false⟩ 0x00 0xE0 false
      [(0xC234, 0x9C), (0xC000, 0xFA), (0xC001, 0x34), (0xC002, 0xC2)]) (fun t =>
      t.regs.a == 0x9C && t.regs.pc == 0xC003 && t.flags == ⟨false, false, false, false⟩ &&
      t.ticksThisCall == 16) = true := by decide

/-- L2-LD-21 (41_loads, R530): bytes 01 34 12. -/
theorem test_ldBcN16_L2_LD_21 : after (
    machine ⟨0x00, 0x00, 0x00, 0x00, 0x00, 0x00, 0x00, 0x0000, 0xC000⟩ ⟨false, false, false, false⟩ 0x00 0xE0 false
      [(0xC000, 0x01), (0xC001, 0x34), (0xC002, 0x12)]) (fun t =>
      t.regs.b == 0x12 && t.regs.c == 0x34 && t.regs.pc == 0xC003 && t.flags == ⟨false, false, false, false⟩ &&
      t.ticksThisCall == 12) = true := by decide

/-- L2-LD-22 (41_loads, R541): bytes F1. -/
theorem test_popAf_L2_LD_22 : after (
    machine ⟨0x00, 0x00, 0x00, 0x00, 0x00, 0x00, 0x00, 0xCFFE, 0xC000⟩ ⟨false, false, false, false⟩ 0x00 0xE0 false
      [(0xCFFE, 0xFF), (0xCFFF, 0x12), (0xC000, 0xF1)]) (fun t =>
      t.regs.a == 0x12 && t.regs.sp == 0xD000 && t.regs.pc == 0xC001 && t.flags == ⟨true, true, true, true⟩ &&
      t.ticksThisCall == 12) = true := by decide

/-- L2-LD-23 (41_loads, R540): bytes F5. -/
theorem test_pushAf_L2_LD_23 : after (
    machine ⟨0x12, 0x00, 0x00, 0x00, 0x00, 0x00, 0x00, 0xD000, 0xC000⟩ ⟨true, false, false, true⟩ 0x00 0xE0 false
      [(0xC000, 0xF5)]) (fun t =>
      t.regs.sp == 0xCFFE && t.regs.pc == 0xC001 && t.flags == ⟨true, false, false, true⟩ &&
      t.ticksThisCall == 16 && writesOf t == [(0xCFFF, 0x12), (0xCFFE, 0x90)]) = true := by decide

/-- L2-LD-24 (41_loads, R540): bytes C5. -/
theorem test_pushBc_L2_LD_24 : after (
    machine ⟨0x00, 0xAB, 0xCD, 0x00, 0x00, 0x00, 0x00, 0x0001, 0xC000⟩ ⟨false, false, false, false⟩ 0x00 0xE0 false
      [(0xC000, 0xC5)]) (fun t =>
      t.regs.sp == 0xFFFF && t.regs.pc == 0xC001 && t.flags == ⟨false, false, false, false⟩ && t.ie == 0xCD &&
      t.ticksThisCall == 16 && writesOf t == [(0x0000, 0xAB), (0xFFFF, 0xCD)]) = true := by decide

/-- L2-LD-25 (41_loads, R541): bytes D1. -/
theorem test_popDe_L2_LD_25 : after (
    machine ⟨0x00, 0x00, 0x00, 0x00, 0x00, 0x00, 0x00, 0xFFFF, 0xC000⟩ ⟨false, false, false, false⟩ 0x34 0xE0 false
      [(0x0000, 0x12), (0xC000, 0xD1)]) (fun t =>
      t.regs.d == 0x12 && t.regs.e == 0x34 && t.regs.sp == 0x0001 && t.regs.pc == 0xC001 &&
      t.flags == ⟨false, false, false, false⟩ && t.ticksThisCall == 12) = true := by decide

/-- L2-LD-26 (41_loads, R531): bytes 08 FF FF. -/
theorem test_ldAtN16Sp_L2_LD_26 : after (
    machine ⟨0x00, 0x00, 0x00, 0x00, 0x00, 0x00, 0x00, 0xABCD, 0xC000⟩ ⟨false, false, false, false⟩ 0x00 0xE0 false
      [(0xC000, 0x08), (0xC001, 0xFF), (0xC002, 0xFF)]) (fun t =>
      t.regs.pc == 0xC003 && t.flags == ⟨false, false, false, false⟩ && t.ie == 0xCD &&
      t.ticksThisCall == 20 && writesOf t == [(0xFFFF, 0xCD), (0x0000, 0xAB)]) = true := by decide

/-- L2-A16-1 (42_alu16, R600): bytes 03. -/
theorem test_incBc_L2_A16_1 : after (
    machine ⟨0x00, 0xFF, 0xFF, 0x00, 0x00, 0x00, 0x00, 0x0000, 0xC000⟩ ⟨true, false, false, true⟩ 0x00 0xE0 false
      [(0xC000, 0x03)]) (fun t =>
      t.regs.b == 0x00 && t.regs.c == 0x00 && t.regs.pc == 0xC001 && t.flags == ⟨true, false, false, true⟩ &&
      t.ticksThisCall == 8) = true := by decide

/-- L2-A16-2 (42_alu16, R601): bytes 1B. -/
theorem test_decDe_L2_A16_2 : after (
    machine ⟨0x00, 0x00, 0x00, 0x00, 0x00, 0x00, 0x00, 0x0000, 0xC000⟩ ⟨false, false, true, false⟩ 0x00 0xE0 false
      [(0xC000, 0x1B)]) (fun t =>
      t.regs.d == 0xFF && t.regs.e == 0xFF && t.regs.pc == 0xC001 && t.flags == ⟨false, false, true, false⟩ &&
      t.ticksThisCall == 8) = true := by decide

/-- L2-A16-3 (42_alu16, R600): bytes 33. -/
theorem test_incSp_L2_A16_3 : after (
    machine ⟨0x00, 0x00, 0x00, 0x00, 0x00, 0x00, 0x00, 0xFFFF, 0xC000⟩ ⟨false, false, false, false⟩ 0x00 0xE0 false
      [(0xC000, 0x33)]) (fun t =>
      t.regs.sp == 0x0000 && t.regs.pc == 0xC001 && t.flags == ⟨false, false, false, false⟩ &&
      t.ticksThisCall == 8) = true := by decide

/-- L2-A16-4 (42_alu16, R601): bytes 2B. -/
theorem test_decHl_L2_A16_4 : after (
    machine ⟨0x00, 0x00, 0x00, 0x00, 0x00, 0x01, 0x00, 0x0000, 0xC000⟩ ⟨false, false, false, false⟩ 0x00 0xE0 false
      [(0xC000, 0x2B)]) (fun t =>
      t.regs.h == 0x00 && t.regs.l == 0xFF && t.regs.pc == 0xC001 && t.flags == ⟨false, false, false, false⟩ &&
      t.ticksThisCall == 8) = true := by decide

/-- L2-A16-5 (42_alu16, R602): bytes 09. -/
theorem test_addHlBc_L2_A16_5 : after (
    machine ⟨0x00, 0x00, 0x01, 0x00, 0x00, 0x0F, 0xFF, 0x0000, 0xC000⟩ ⟨true, false, false, false⟩ 0x00 0xE0 false
      [(0xC000, 0x09)]) (fun t =>
      t.regs.h == 0x10 && t.regs.l == 0x00 && t.regs.pc == 0xC001 && t.flags == ⟨true, false, true, false⟩ &&
      t.ticksThisCall == 8) = true := by decide

/-- L2-A16-6 (42_alu16, R602): bytes 29. -/
theorem test_addHlHl_L2_A16_6 : after (
    machine ⟨0x00, 0x00, 0x00, 0x00, 0x00, 0x80, 0x00, 0x0000, 0xC000⟩ ⟨false, false, false, false⟩ 0x00 0xE0 false
      [(0xC000, 0x29)]) (fun t =>
      t.regs.h == 0x00 && t.regs.pc == 0xC001 && t.flags == ⟨false, false, false, true⟩ && t.ticksThisCall == 8) = true := by decide

/-- L2-A16-7 (42_alu16, R602): bytes 39. -/
theorem test_addHlSp_L2_A16_7 : after (
    machine ⟨0x00, 0x00, 0x00, 0x00, 0x00, 0xFF, 0xFF, 0x0001, 0xC000⟩ ⟨false, true, false, false⟩ 0x00 0xE0 false
      [(0xC000, 0x39)]) (fun t =>
      t.regs.h == 0x00 && t.regs.l == 0x00 && t.regs.pc == 0xC001 && t.flags == ⟨false, false, true, true⟩ &&
      t.ticksThisCall == 8) = true := by decide

/-- L2-A16-8 (42_alu16, R603): bytes E8 08. -/
theorem test_addSpE8_L2_A16_8 : after (
    machine ⟨0x00, 0x00, 0x00, 0x00, 0x00, 0x00, 0x00, 0xFFF8, 0xC000⟩ ⟨true, true, false, false⟩ 0x00 0xE0 false
      [(0xC000, 0xE8), (0xC001, 0x08)]) (fun t =>
      t.regs.sp == 0x0000 && t.regs.pc == 0xC002 && t.flags == ⟨false, false, true, true⟩ &&
      t.ticksThisCall == 16) = true := by decide

/-- L2-A16-11 (42_alu16, R604): bytes F8 80. -/
theorem test_ldHlSpE8_L2_A16_11 : after (
    machine ⟨0x00, 0x00, 0x00, 0x00, 0x00, 0x00, 0x00, 0x1000, 0xC000⟩ ⟨false, false, false, false⟩ 0x00 0xE0 false
      [(0xC000, 0xF8), (0xC001, 0x80)]) (fun t =>
      t.regs.h == 0x0F && t.regs.l == 0x80 && t.regs.pc == 0xC002 && t.flags == ⟨false, false, false, false⟩ &&
      t.ticksThisCall == 12) = true := by decide

/-- L2-CTL-1 (43_control, R700): bytes C3 00 80. -/
theorem test_jpN16_L2_CTL_1 : after (
    machine ⟨0x00, 0x00, 0x00, 0x00, 0x00, 0x00, 0x00, 0x0000, 0xC000⟩ ⟨false, false, false, false⟩ 0x00 0xE0 false
      [(0xC000, 0xC3), (0xC001, 0x00), (0xC002, 0x80)]) (fun t =>
      t.regs.pc == 0x8000 && t.flags == ⟨false, false, false, false⟩ && t.ticksThisCall == 16) = true := by decide

/-- L2-CTL-2 (43_control, R701): bytes C2 00 80. -/
theorem test_jpNzN16_L2_CTL_2 : after (
    machine ⟨0x00, 0x00, 0x00, 0x00, 0x00, 0x00, 0x00, 0x0000, 0xC000⟩ ⟨false, false, false, false⟩ 0x00 0xE0 false
      [(0xC000, 0xC2), (0xC001, 0x00), (0xC002, 0x80)]) (fun t =>
      t.regs.pc == 0x8000 && t.flags == ⟨false, false, false, false⟩ && t.ticksThisCall == 16) = true := by decide

/-- L2-CTL-7 (43_control, R710): bytes 18 05. -/
theorem test_jrE8_L2_CTL_7 : after (
    machine ⟨0x00, 0x00, 0x00, 0x00, 0x00, 0x00, 0x00, 0x0000, 0xC000⟩ ⟨false, false, false, false⟩ 0x00 0xE0 false
      [(0xC000, 0x18), (0xC001, 0x05)]) (fun t =>
      t.regs.pc == 0xC007 && t.flags == ⟨false, false, false, false⟩ && t.ticksThisCall == 12) = true := by decide

/-- L2-CTL-11 (43_control, R711): bytes 20 05. -/
theorem test_jrNzE8_L2_CTL_11 : after (
    machine ⟨0x00, 0x00, 0x00, 0x00, 0x00, 0x00, 0x00, 0x0000, 0xC000⟩ ⟨true, false, false, false⟩ 0x00 0xE0 false
      [(0xC000, 0x20), (0xC001, 0x05)]) (fun t =>
      t.regs.pc == 0xC002 && t.flags == ⟨true, false, false, false⟩ && t.ticksThisCall == 8) = true := by decide

/-- L2-CTL-16 (43_control, R721): bytes C4 00 80. -/
theorem test_callNzN16_L2_CTL_16 : after (
    machine ⟨0x00, 0x00, 0x00, 0x00, 0x00, 0x00, 0x00, 0xD000, 0xC000⟩ ⟨false, false, false, false⟩ 0x00 0xE0 false
      [(0xC000, 0xC4), (0xC001, 0x00), (0xC002, 0x80)]) (fun t =>
      t.regs.sp == 0xCFFE && t.regs.pc == 0x8000 && t.flags == ⟨false, false, false, false⟩ &&
      t.ticksThisCall == 24 && writesOf t == [(0xCFFF, 0xC0), (0xCFFE, 0x03)]) = true := by decide

/-- L2-CTL-19 (43_control, R722): bytes C9. -/
theorem test_ret_L2_CTL_19 : after (
    machine ⟨0x00, 0x00, 0x00, 0x00, 0x00, 0x00, 0x00, 0xCFFE, 0xC000⟩ ⟨false, false, false, false⟩ 0x00 0xE0 false
      [(0xCFFE, 0x50), (0xCFFF, 0x01), (0xC000, 0xC9)]) (fun t =>
      t.regs.sp == 0xD000 && t.regs.pc == 0x0150 && t.flags == ⟨false, false, false, false⟩ &&
      t.ticksThisCall == 16) = true := by decide

/-- L2-CTL-20 (43_control, R723): bytes C0. -/
theorem test_retNz_L2_CTL_20 : after (
    machine ⟨0x00, 0x00, 0x00, 0x00, 0x00, 0x00, 0x00, 0xCFFE, 0xC000⟩ ⟨false, false, false, false⟩ 0x00 0xE0 false
      [(0xCFFE, 0x50), (0xCFFF, 0x01), (0xC000, 0xC0)]) (fun t =>
      t.regs.sp == 0xD000 && t.regs.pc == 0x0150 && t.flags == ⟨false, false, false, false⟩ &&
      t.ticksThisCall == 20) = true := by decide

/-- L2-CTL-23 (43_control, R724): bytes D9. -/
theorem test_reti_L2_CTL_23 : after (
    machine ⟨0x00, 0x00, 0x00, 0x00, 0x00, 0x00, 0x00, 0xCFFE, 0xC000⟩ ⟨false, false, false, false⟩ 0x00 0xE0 false
      [(0xCFFE, 0x50), (0xCFFF, 0x01), (0xC000, 0xD9)]) (fun t =>
      t.regs.sp == 0xD000 && t.regs.pc == 0x0150 && t.flags == ⟨false, false, false, false⟩ && t.ime == true &&
      t.ticksThisCall == 16) = true := by decide

/-- L2-CTL-25 (43_control, R730): bytes FF. -/
theorem test_rst38_L2_CTL_25 : after (
    machine ⟨0x00, 0x00, 0x00, 0x00, 0x00, 0x00, 0x00, 0xD000, 0xC000⟩ ⟨false, false, false, false⟩ 0x00 0xE0 false
      [(0xC000, 0xFF)]) (fun t =>
      t.regs.sp == 0xCFFE && t.regs.pc == 0x0038 && t.flags == ⟨false, false, false, false⟩ &&
      t.ticksThisCall == 16 && writesOf t == [(0xCFFF, 0xC0), (0xCFFE, 0x01)]) = true := by decide

/-- L2-CTL-26 (43_control, R730): bytes C7. -/
theorem test_rst00_L2_CTL_26 : after (
    machine ⟨0x00, 0x00, 0x00, 0x00, 0x00, 0x00, 0x00, 0xD000, 0x0100⟩ ⟨false, false, false, false⟩ 0x00 0xE0 false
      [(0x0100, 0xC7)]) (fun t =>
      t.regs.sp == 0xCFFE && t.regs.pc == 0x0000 && t.flags == ⟨false, false, false, false⟩ &&
      t.ticksThisCall == 16 && writesOf t == [(0xCFFF, 0x01), (0xCFFE, 0x01)]) = true := by decide

/-- L2-ROT-1 (44_rotate_bit, R800): bytes 07. -/
theorem test_rlca_L2_ROT_1 : after (
    machine ⟨0x85, 0x00, 0x00, 0x00, 0x00, 0x00, 0x00, 0x0000, 0xC000⟩ ⟨false, false, false, false⟩ 0x00 0xE0 false
      [(0xC000, 0x07)]) (fun t =>
      t.regs.a == 0x0B && t.regs.pc == 0xC001 && t.flags == ⟨false, false, false, true⟩ && t.ticksThisCall == 4) = true := by decide

/-- L2-ROT-3 (44_rotate_bit, R801): bytes 0F. -/
theorem test_rrca_L2_ROT_3 : after (
    machine ⟨0x01, 0x00, 0x00, 0x00, 0x00, 0x00, 0x00, 0x0000, 0xC000⟩ ⟨false, false, false, false⟩ 0x00 0xE0 false
      [(0xC000, 0x0F)]) (fun t =>
      t.regs.a == 0x80 && t.regs.pc == 0xC001 && t.flags == ⟨false, false, false, true⟩ && t.ticksThisCall == 4) = true := by decide

/-- L2-ROT-4 (44_rotate_bit, R802): bytes 17. -/
theorem test_rla_L2_ROT_4 : after (
    machine ⟨0x80, 0x00, 0x00, 0x00, 0x00, 0x00, 0x00, 0x0000, 0xC000⟩ ⟨false, false, false, false⟩ 0x00 0xE0 false
      [(0xC000, 0x17)]) (fun t =>
      t.regs.a == 0x00 && t.regs.pc == 0xC001 && t.flags == ⟨false, false, false, true⟩ && t.ticksThisCall == 4) = true := by decide

/-- L2-ROT-5 (44_rotate_bit, R803): bytes 1F. -/
theorem test_rra_L2_ROT_5 : after (
    machine ⟨0x01, 0x00, 0x00, 0x00, 0x00, 0x00, 0x00, 0x0000, 0xC000⟩ ⟨false, false, false, true⟩ 0x00 0xE0 false
      [(0xC000, 0x1F)]) (fun t =>
      t.regs.a == 0x80 && t.regs.pc == 0xC001 && t.flags == ⟨false, false, false, true⟩ && t.ticksThisCall == 4) = true := by decide

/-- L2-ROT-6 (44_rotate_bit, R811): bytes CB 00. -/
theorem test_rlcB_L2_ROT_6 : after (
    machine ⟨0x00, 0x80, 0x00, 0x00, 0x00, 0x00, 0x00, 0x0000, 0xC000⟩ ⟨false, false, false, false⟩ 0x00 0xE0 false
      [(0xC000, 0xCB), (0xC001, 0x00)]) (fun t =>
      t.regs.b == 0x01 && t.regs.pc == 0xC002 && t.flags == ⟨false, false, false, true⟩ && t.ticksThisCall == 8) = true := by decide

/-- L2-ROT-7 (44_rotate_bit, R811): bytes CB 01. -/
theorem test_rlcC_L2_ROT_7 : after (
    machine ⟨0x00, 0x00, 0x00, 0x00, 0x00, 0x00, 0x00, 0x0000, 0xC000⟩ ⟨false, false, false, false⟩ 0x00 0xE0 false
      [(0xC000, 0xCB), (0xC001, 0x01)]) (fun t =>
      t.regs.pc == 0xC002 && t.flags == ⟨true, false, false, false⟩ && t.ticksThisCall == 8) = true := by decide

/-- L2-ROT-8 (44_rotate_bit, R814): bytes CB 0E. -/
theorem test_rrcAtHl_L2_ROT_8 : after (
    machine ⟨0x00, 0x00, 0x00, 0x00, 0x00, 0xC1, 0x00, 0x0000, 0xC000⟩ ⟨false, false, false, false⟩ 0x00 0xE0 false
      [(0xC100, 0x01), (0xC000, 0xCB), (0xC001, 0x0E)]) (fun t =>
      t.regs.pc == 0xC002 && t.flags == ⟨false, false, false, true⟩ && t.ticksThisCall == 16 &&
      writesOf t == [(0xC100, 0x80)]) = true := by decide

/-- L2-ROT-9 (44_rotate_bit, R815): bytes CB 12. -/
theorem test_rlD_L2_ROT_9 : after (
    machine ⟨0x00, 0x00, 0x00, 0x80, 0x00, 0x00, 0x00, 0x0000, 0xC000⟩ ⟨false, false, false, false⟩ 0x00 0xE0 false
      [(0xC000, 0xCB), (0xC001, 0x12)]) (fun t =>
      t.regs.d == 0x00 && t.regs.pc == 0xC002 && t.flags == ⟨true, false, false, true⟩ && t.ticksThisCall == 8) = true := by decide

/-- L2-ROT-10 (44_rotate_bit, R817): bytes CB 1B. -/
theorem test_rrE_L2_ROT_10 : after (
    machine ⟨0x00, 0x00, 0x00, 0x00, 0x01, 0x00, 0x00, 0x0000, 0xC000⟩ ⟨false, false, false, true⟩ 0x00 0xE0 false
      [(0xC000, 0xCB), (0xC001, 0x1B)]) (fun t =>
      t.regs.e == 0x80 && t.regs.pc == 0xC002 && t.flags == ⟨false, false, false, true⟩ && t.ticksThisCall == 8) = true := by decide

/-- L2-ROT-11 (44_rotate_bit, R819): bytes CB 24. -/
theorem test_slaH_L2_ROT_11 : after (
    machine ⟨0x00, 0x00, 0x00, 0x00, 0x00, 0xC0, 0x00, 0x0000, 0xC000⟩ ⟨false, false, false, false⟩ 0x00 0xE0 false
      [(0xC000, 0xCB), (0xC001, 0x24)]) (fun t =>
      t.regs.h == 0x80 && t.regs.pc == 0xC002 && t.flags == ⟨false, false, false, true⟩ && t.ticksThisCall == 8) = true := by decide

/-- L2-ROT-12 (44_rotate_bit, R821): bytes CB 2D. -/
theorem test_sraL_L2_ROT_12 : after (
    machine ⟨0x00, 0x00, 0x00, 0x00, 0x00, 0x00, 0x81, 0x0000, 0xC000⟩ ⟨false, false, false, false⟩ 0x00 0xE0 false
      [(0xC000, 0xCB), (0xC001, 0x2D)]) (fun t =>
      t.regs.l == 0xC0 && t.regs.pc == 0xC002 && t.flags == ⟨false, false, false, true⟩ && t.ticksThisCall == 8) = true := by decide

/-- L2-ROT-13 (44_rotate_bit, R823): bytes CB 37. -/
theorem test_swapA_L2_ROT_13 : after (
    machine ⟨0xF1, 0x00, 0x00, 0x00, 0x00, 0x00, 0x00, 0x0000, 0xC000⟩ ⟨false, false, false, true⟩ 0x00 0xE0 false
      [(0xC000, 0xCB), (0xC001, 0x37)]) (fun t =>
      t.regs.a == 0x1F && t.regs.pc == 0xC002 && t.flags == ⟨false, false, false, false⟩ && t.ticksThisCall == 8) = true := by decide

/-- L2-ROT-14 (44_rotate_bit, R823): bytes CB 30. -/
theorem test_swapB_L2_ROT_14 : after (
    machine ⟨0x00, 0x00, 0x00, 0x00, 0x00, 0x00, 0x00, 0x0000, 0xC000⟩ ⟨false, false, false, false⟩ 0x00 0xE0 false
      [(0xC000, 0xCB), (0xC001, 0x30)]) (fun t =>
      t.regs.pc == 0xC002 && t.flags == ⟨true, false, false, false⟩ && t.ticksThisCall == 8) = true := by decide

/-- L2-ROT-15 (44_rotate_bit, R825): bytes CB 3F. -/
theorem test_srlA_L2_ROT_15 : after (
    machine ⟨0x01, 0x00, 0x00, 0x00, 0x00, 0x00, 0x00, 0x0000, 0xC000⟩ ⟨false, false, false, false⟩ 0x00 0xE0 false
      [(0xC000, 0xCB), (0xC001, 0x3F)]) (fun t =>
      t.regs.a == 0x00 && t.regs.pc == 0xC002 && t.flags == ⟨true, false, false, true⟩ && t.ticksThisCall == 8) = true := by decide

/-- L2-ROT-16 (44_rotate_bit, R826): bytes CB 3E. -/
theorem test_srlAtHl_L2_ROT_16 : after (
    machine ⟨0x00, 0x00, 0x00, 0x00, 0x00, 0xC1, 0x00, 0x0000, 0xC000⟩ ⟨false, false, false, false⟩ 0x00 0xE0 false
      [(0xC100, 0x80), (0xC000, 0xCB), (0xC001, 0x3E)]) (fun t =>
      t.regs.pc == 0xC002 && t.flags == ⟨false, false, false, false⟩ && t.ticksThisCall == 16 &&
      writesOf t == [(0xC100, 0x40)]) = true := by decide

/-- L2-ROT-17 (44_rotate_bit, R830): bytes CB 7C. -/
theorem test_bit7H_L2_ROT_17 : after (
    machine ⟨0x00, 0x00, 0x00, 0x00, 0x00, 0x7F, 0x00, 0x0000, 0xC000⟩ ⟨false, false, false, true⟩ 0x00 0xE0 false
      [(0xC000, 0xCB), (0xC001, 0x7C)]) (fun t =>
      t.regs.pc == 0xC002 && t.flags == ⟨true, false, true, true⟩ && t.ticksThisCall == 8) = true := by decide

/-- L2-ROT-18 (44_rotate_bit, R830): bytes CB 47. -/
theorem test_bit0A_L2_ROT_18 : after (
    machine ⟨0x01, 0x00, 0x00, 0x00, 0x00, 0x00, 0x00, 0x0000, 0xC000⟩ ⟨true, true, false, false⟩ 0x00 0xE0 false
      [(0xC000, 0xCB), (0xC001, 0x47)]) (fun t =>
      t.regs.pc == 0xC002 && t.flags == ⟨false, false, true, false⟩ && t.ticksThisCall == 8) = true := by decide

/-- L2-ROT-20 (44_rotate_bit, R832): bytes CB 9F. -/
theorem test_res3A_L2_ROT_20 : after (
    machine ⟨0xFF, 0x00, 0x00, 0x00, 0x00, 0x00, 0x00, 0x0000, 0xC000⟩ ⟨false, false, false, false⟩ 0x00 0xE0 false
      [(0xC000, 0xCB), (0xC001, 0x9F)]) (fun t =>
      t.regs.a == 0xF7 && t.regs.pc == 0xC002 && t.flags == ⟨false, false, false, false⟩ && t.ticksThisCall == 8) = true := by decide

/-- L2-ROT-21 (44_rotate_bit, R833): bytes CB 86. -/
theorem test_res0AtHl_L2_ROT_21 : after (
    machine ⟨0x00, 0x00, 0x00, 0x00, 0x00, 0xFF, 0x0F, 0x0000, 0xC000⟩ ⟨false, false, false, false⟩ 0x00 0xE1 false
      [(0xC000, 0xCB), (0xC001, 0x86)]) (fun t =>
      t.regs.pc == 0xC002 && t.flags == ⟨false, false, false, false⟩ && t.ifr == 0xE0 &&
      t.ticksThisCall == 16 && writesOf t == [(0xFF0F, 0xE0)]) = true := by decide

/-- L2-ROT-22 (44_rotate_bit, R835): bytes CB FE. -/
theorem test_set7AtHl_L2_ROT_22 : after (
    machine ⟨0x00, 0x00, 0x00, 0x00, 0x00, 0xC1, 0x00, 0x0000, 0xC000⟩ ⟨false, false, false, false⟩ 0x00 0xE0 false
      [(0xC100, 0x01), (0xC000, 0xCB), (0xC001, 0xFE)]) (fun t =>
      t.regs.pc == 0xC002 && t.flags == ⟨false, false, false, false⟩ && t.ticksThisCall == 16 &&
      writesOf t == [(0xC100, 0x81)]) = true := by decide

/-- L2-ROT-23 (44_rotate_bit, R834): bytes CB CB. -/
theorem test_set1E_L2_ROT_23 : after (
    machine ⟨0x00, 0x00, 0x00, 0x00, 0x00, 0x00, 0x00, 0x0000, 0xC000⟩ ⟨false, false, false, false⟩ 0x00 0xE0 false
      [(0xC000, 0xCB), (0xC001, 0xCB)]) (fun t =>
      t.regs.e == 0x02 && t.regs.pc == 0xC002 && t.flags == ⟨false, false, false, false⟩ && t.ticksThisCall == 8) = true := by decide

/-- L2-SYS-13 (45_system, R921): bytes FB. -/
theorem test_ei_L2_SYS_13 : after (
    machine ⟨0x00, 0x00, 0x00, 0x00, 0x00, 0x00, 0x00, 0xD000, 0xC000⟩ ⟨false, false, false, false⟩ 0x01 0xE1 true
      [(0xC000, 0xFB)]) (fun t =>
      t.regs.sp == 0xCFFE && t.regs.pc == 0x0040 && t.flags == ⟨false, false, false, false⟩ && t.ifr == 0xE0 &&
      t.ime == false && t.ticksThisCall == 24 && writesOf t == [(0xCFFF, 0xC0), (0xCFFE, 0x01)]) = true := by decide

/-- L2-SYS-14 (45_system, R920): bytes F3. -/
theorem test_di_L2_SYS_14 : after (
    machine ⟨0x00, 0x00, 0x00, 0x00, 0x00, 0x00, 0x00, 0x0000, 0xC000⟩ ⟨false, false, false, false⟩ 0x04 0xE4 true
      [(0xC000, 0xF3)]) (fun t =>
      t.regs.pc == 0xC001 && t.flags == ⟨false, false, false, false⟩ && t.ime == false && t.ticksThisCall == 4) = true := by decide

/-- L2-SYS-17 (45_system, R902): bytes D3. -/
theorem test_illegalD3_L2_SYS_17 : after (
    machine ⟨0x00, 0x00, 0x00, 0x00, 0x00, 0x00, 0x00, 0x0000, 0xC000⟩ ⟨false, false, false, false⟩ 0x04 0xE4 true
      [(0xC000, 0xD3)]) (fun t =>
      t.regs.pc == 0xC001 && t.flags == ⟨false, false, false, false⟩ && t.broken && t.ticksThisCall == 4) = true := by decide

/-- A machine with pending events, in the order of their sequence numbers, and what their callbacks do. -/
def withEvents (s : State) (evs : List (EventId × Nat)) (acts : List (List EnvAct)) : State :=
  { s with
    events := evs.zipIdx.map (fun e => { id := e.1.1, dueTick := e.1.2, callback := .env 0, seq := e.2 }),
    nextSeq := evs.length,
    env := { s.env with callbacks := acts } }

/-- Every register 0 but sp and pc, every flag 0. -/
def plain (sp pc : Word) : Registers := ⟨0, 0, 0, 0, 0, 0, 0, sp, pc⟩

def noFlags : Flags := ⟨false, false, false, false⟩

/-- L2-SYS-1 (45_system.md, R910): HALT waits for the event due at tick 104 and dispatches from halt. -/
theorem test_halt_L2_SYS_1 : after
    (withEvents (machine (plain 0xD000 0xC000) noFlags 0x04 0xE0 true [(0xC000, 0x76)]) [(.timerTick, 104)]
      [[.request 2]]) (fun t =>
      t.regs.sp == 0xCFFE && t.regs.pc == 0x0050 && !t.ime && t.ifr == 0xE0 && t.ticksThisCall == 124 &&
      writesOf t == [(0xCFFF, 0xC0), (0xCFFE, 0x01)]) = true := by decide

/-- L1-7, its first step (45_system.md, R910): HALT with IME clear and Timer requested and enabled. -/
theorem test_halt_L1_7 : after
    (machine (plain 0 0xC000) noFlags 0x04 0xE4 false [(0xC000, 0x76), (0xC001, 0x3C)])
    (fun t => t.haltBug && t.regs.pc == 0xC001 && t.ifr == 0xE4 && t.ticksThisCall == 4) = true := by decide

/-- L2-SYS-16 (45_system.md, R915): the armed STOP halves the remaining 1000 ticks. -/
theorem test_stop_L2_SYS_16 :
    (let s := withEvents (machine (plain 0 0xC000) noFlags 0 0xE0 false [(0xC000, 0x10)]) [(.frameSequencer, 1008)] [[]]
     after { s with env := { s.env with speedSwitchArmed := true } } (fun t =>
      t.doubleSpeed && t.regs.pc == 0xC002 && t.events.map (fun e => (e.id, e.dueTick)) == [(.frameSequencer, 508)] &&
      t.ticksThisCall == 8)) = true := by decide

/-- L2-SYS-15 (45_system.md, R915): STOP without an armed switch is refused. -/
theorem test_stop_L2_SYS_15 :
    step (machine (plain 0 0xC000) noFlags 0 0xE0 false [(0xC000, 0x10)]) = .refused .stopWithoutSpeedSwitch := rfl

/-- L2-INT-1 (60_exceptions.md, R1033): the high push lands on IE and cancels the dispatch to 0x0000. -/
theorem test_dispatch_L2_INT_1 : after
    (machine (plain 0x0000 0x014F) noFlags 0x04 0xE4 true []) (fun t =>
      t.regs.sp == 0xFFFE && t.regs.pc == 0x0000 && !t.ime && t.ie == 0x01 && t.ifr == 0xE4 &&
      t.ticksThisCall == 24 && writesOf t == [(0xFFFF, 0x01), (0xFFFE, 0x50)]) = true := by decide

/-- L2-INT-3 (60_exceptions.md, R1033): the high push lands on IF and removes the request. -/
theorem test_dispatch_L2_INT_3 : after
    (machine (plain 0xFF10 0xC000) noFlags 0x04 0xE4 true []) (fun t =>
      t.regs.sp == 0xFF0E && t.regs.pc == 0x0000 && !t.ime && t.ifr == 0xE0 && t.ticksThisCall == 24) = true := by
  decide

/-- L2-INT-4 (60_exceptions.md, R1033): a callback inside the dispatch's first ticks redirects it. -/
theorem test_dispatch_L2_INT_4 : after
    (withEvents (machine (plain 0xD000 0xC000) noFlags 0x05 0xE4 true []) [(.displayMode, 6)] [[.request 0]])
    (fun t => t.regs.pc == 0x0040 && t.ifr == 0xE4 && t.ticksThisCall == 24) = true := by decide

/-- L2-INT-5 (60_exceptions.md, R1033): a callback after the selection does not. -/
theorem test_dispatch_L2_INT_5 : after
    (withEvents (machine (plain 0xD000 0xC000) noFlags 0x05 0xE4 true []) [(.displayMode, 16)] [[.request 0]])
    (fun t => t.regs.pc == 0x0050 && t.ifr == 0xE1 && t.ticksThisCall == 24) = true := by decide

/-- L2-SCH-2 (60_exceptions.md, R1060): an event added with delta 0 by a callback runs in the same loop. -/
theorem test_scheduler_L2_SCH_2 : after
    (withEvents (machine (plain 0 0xC000) noFlags 0 0xE0 false []) [(.timerTick, 4)] [[.add .dma 0 1], []])
    (fun t => t.events == [] && t.env.log.take 3 == [.read 4 0xC000 0x00, .callback 4 .dma 0, .callback 4 .timerTick 0])
      = true := by decide

/-- L2-SCH-5 (60_exceptions.md, R1060): a callback cancels an event already due. -/
theorem test_scheduler_L2_SCH_5 : after
    (withEvents (machine (plain 0 0xC000) noFlags 0 0xE0 false []) [(.timerTick, 3), (.serialClock, 2)]
      [[.cancel .timerTick]])
    (fun t => t.events == [] && t.env.log.length == 2) = true := by decide

/-- L1-4, steps 3 to 5 (60_exceptions.md, R1061, R1062): the least due tick after adds and a cancel. -/
theorem test_scheduler_L1_4 :
    (let s := withEvents { State.reset with currentTick := 100 } [(.timerTick, 150), (.serialClock, 120)] []
     let t := (s.addEventRelative .displayMode 20 (.env 0)).addEventRelative .serialClock 80 (.env 0)
     t.nextEventTick == some 120 && (t.cancelEventsById .serialClock).events.map (fun e => (e.id, e.dueTick)) ==
       [(.timerTick, 150), (.displayMode, 120)]) = true := by decide

/-- A read at an environment address may request an interrupt and change the environment's own state, and leaves the
events alone (60_exceptions.md, R1010, R1087). -/
theorem test_bus_read_sideEffects :
    (let s := withEvents { State.reset with env := { State.reset.env with
        reads := [⟨some 0x5A, [.request 2, .poke 0xC000 0x77, .arm true]⟩] } } [(.dma, 100)] []
     let r := s.memRead 0x8000
     r.1 == 0x5A && r.2.ifr == 0xE4 && r.2.peek 0xC000 == 0x77 && r.2.env.speedSwitchArmed && r.2.events == s.events &&
       r.2.regs == s.regs) = true := by decide

/-- A launch with memory contents and an initial event (70_reset_and_hazards.md, R1200): the first instruction comes
from the memory the launch chose. -/
theorem test_launch_memory : after
    (State.launch Registers.cgbPostBoot Flags.cgbPostBoot Config.defaultParams
      { Environment.idle with mem := [(0x0100, 0x3E), (0x0101, 0x5A)], speedSwitchArmed := true } [(.timerTick, 100, 0)])
    (fun t => t.regs.a == 0x5A && t.regs.pc == 0x0102 && t.events.map (fun e => e.dueTick) == [100] &&
      t.env.speedSwitchArmed) = true := by decide

/-! ### Witnesses: states and operands that meet the hypotheses of the statements -/

/-- A state without events and without moves of the environment is quiet for any time. -/
theorem quiet_of_idle {s : State} (n : Nat) (hb : s.broken = false) (hr : s.env.reads = []) (hw : s.env.writes = [])
    (he : s.events = []) : s.Quiet n := ⟨hb, hr, hw, by simp [he]⟩

/-- Reset with an event due just after n ticks: the last due tick that leaves n ticks quiet. -/
def eventAt (n : Nat) (s : State) : State := withEvents s [(.timerTick, s.currentTick + n + 1)] []

theorem quiet_eventAt {s : State} (n : Nat) (hb : s.broken = false) (hr : s.env.reads = []) (hw : s.env.writes = []) :
    (eventAt n s).Quiet n := ⟨hb, hr, hw, by simp [eventAt, withEvents]⟩

/-- Reset with the bytes of an instruction at pc. -/
def resetWith (bs : List Byte) : State := State.reset.placeAt 0x0100 bs

/-- 64 pending events, none due. -/
def fullHeap : State := withEvents State.reset (List.replicate 64 (.dma, 1000000)) []

/-- 63 pending events, none due. -/
def nearlyFullHeap : State := withEvents State.reset (List.replicate 63 (.dma, 1000000)) []

/-- A state in which the tick d overruns the scheduler: the callback of an event due then adds 65 events. -/
def overrunAt (d : Nat) : State :=
  withEvents State.reset [(.timerTick, d)] [List.replicate 65 (.add .dma 1000000 0)]

/-- A state in which the first bus write overruns the scheduler. -/
def writeOverrun : State :=
  { State.reset with
    env := { State.reset.env with
      writes := [{ store := true, acts := List.replicate 65 (.add .dma 1000000 0) }] } }

theorem witness_StepRunsDecodedInstruction :
    (let s := resetWith [0x3C]
     let r0 := (s.beginExecute).memRead 0x0100
     s.broken = false ∧ Instr.incA.wellFormed = true ∧ r0.2.broken = false ∧ decode [r0.1] = .ok (.incA, [])) ∧
    (let s := resetWith [0x3E, 0x24]
     let r0 := (s.beginExecute).memRead 0x0100
     let r1 := (r0.2.setPc 0x0101).memRead 0x0101
     (Instr.ldAN8 0x24).wellFormed = true ∧ r1.2.broken = false ∧ decode [r0.1, r1.1] = .ok (.ldAN8 0x24, [])) ∧
    (let s := { resetWith [0xCD, 0x34] with haltBug := true }
     let r0 := (s.beginExecute).memRead 0x0100
     let r1 := ({ r0.2 with haltBug := false }).memRead 0x0100
     let r2 := (r1.2.setPc 0x0101).memRead 0x0101
     (Instr.callN16 0x34CD).wellFormed = true ∧ r2.2.broken = false ∧
       decode [r0.1, r1.1, r2.1] = .ok (.callN16 0x34CD, [])) := by decide

theorem witness_QuietStepRunsBytesAtPc :
    (eventAt 12 (resetWith [0xCD, 0x34, 0x12])).Quiet 12 ∧ (Instr.callN16 0x1234).wellFormed = true ∧
    decode (stream (eventAt 12 (resetWith [0xCD, 0x34, 0x12]))) = .ok (.callN16 0x1234, []) ∧
    ({ resetWith [0x3E, 0x24] with haltBug := true } : State).Quiet 12 ∧
    decode (stream { resetWith [0x3E, 0x24] with haltBug := true }) = .ok (.ldAN8 0x3E, [0x24]) :=
  ⟨quiet_eventAt 12 rfl rfl rfl, rfl, by decide, quiet_of_idle 12 rfl rfl rfl rfl, by decide⟩

theorem witness_CompleteStepChargesAndChecks :
    (State.reset.raiseFatal .haltSkipStuck).broken = true ∧
    (State.reset.pendingTicks = 0 ∧ State.reset.broken = false) ∧
    (let s := { State.reset with pendingTicks := 4 }
     0 < s.pendingTicks ∧ s.broken = false ∧ (s.tick s.pendingTicks).broken = false) ∧
    (let s := { State.reset with ime := true, ie := 0x10, ifr := 0xF0 }
     s.ime = true ∧ s.ifr &&& s.ie &&& 0x1F#8 ≠ 0x00#8) ∧
    (let s := { overrunAt 4 with pendingTicks := 4 }
     s.broken = false ∧ 0 < s.pendingTicks ∧ (s.tick s.pendingTicks).broken = true) := by decide

theorem witness_BrokenStateHasNoStep : (State.reset.raiseFatal .haltSkipStuck).broken = true := by decide

theorem witness_DecodeInvertsEncode :
    (Instr.jpN16 0xFFFF).wellFormed = true := by decide

theorem witness_PlacedWordRunsNext :
    (let s := { State.reset with regs := { State.reset.regs with pc := 0xFF0C } }
     s.Quiet 12 ∧ Memory.wf s.env.mem ∧ s.haltBug = false ∧ coreOwned s.regs.pc = false ∧
       coreOwned (s.regs.pc + 1) = false ∧ coreOwned (s.regs.pc + 2) = false ∧
       decodeTableWord 24 0x1234CD = some (.callN16 0x1234) ∧ decodeTableWord 16 0xCB37 = some .swapA) :=
  ⟨quiet_of_idle 12 rfl rfl rfl rfl, by decide, rfl, by decide, by decide, by decide, by decide, by decide⟩

theorem reset_inv : State.reset.Inv where
  ifHigh := by decide
  memory := by decide
  capacity := by decide
  seqRising := by decide
  seqGiven := by decide
  cap := by decide
  reason := by decide
  notOverdue := by decide
  charged := by decide
  running := by decide

theorem witness_EveryStepKeepsTheInvariant : State.reset.Inv ∧ ∃ t, step State.reset = .next t :=
  ⟨reset_inv, _, rfl⟩

theorem witness_ResetHasTheInvariant :
    0 < (⟨1, true⟩ : Config.Params).haltSkipCap ∧ Memory.wf [(0x0000, 0xC3), (0xFFFF, 0x01)] ∧
      (List.replicate 64 (EventId.dma, 0, 7)).length ≤ 64 := by decide

theorem witness_ResetValues : (List.replicate 64 (EventId.dma, 0, 7)).length ≤ 64 := by decide

theorem witness_RegisterPairsAreViews : Reg8.b ≠ Reg8.a := by decide

theorem witness_AddAndAdcResults :
    ∀ l ∈ [addForms 0xFF, adcForms 0x00], ∀ f ∈ l, (f.2.read State.reset).2.broken = false := by decide

theorem witness_SubSbcAndCpResults :
    ∀ l ∈ [subForms 0xFF, sbcForms 0x00, cpForms 0x80], ∀ f ∈ l, (f.2.read State.reset).2.broken = false := by decide

theorem witness_AndXorOrResults :
    ∀ l ∈ [andForms 0xFF, xorForms 0x00, orForms 0x80], ∀ f ∈ l, (f.2.read State.reset).2.broken = false := by decide

theorem witness_IncDecMemoryResults :
    (let r := State.reset.memRead (State.reset.r16 .hl)
     r.2.broken = false ∧ (r.2.memWrite (State.reset.r16 .hl) 0x01).broken = false ∧
       (r.2.memWrite (State.reset.r16 .hl) 0xFF).broken = false) := by decide

theorem witness_RegisterLoadResults : ((Instr.ldHH, Reg8.h, Reg8.h) : Instr × Reg8 × Reg8) ∈ copyForms := by decide

theorem witness_MemoryLoadResults :
    ∀ f ∈ loadForms 0xFF 0xFFFF State.reset, (State.reset.memRead f.2.2).2.broken = false := by decide

theorem witness_StepLoadAndStoreResults :
    (State.reset.memRead (State.reset.r16 .hl)).2.broken = false ∧
    (State.reset.memWrite (State.reset.r16 .hl) State.reset.regs.a).broken = false := by decide

theorem witness_WordLoadResults : (State.reset.memWrite 0xFFFF State.reset.regs.sp.lo).broken = false := by decide

theorem witness_PushResults :
    ∀ f ∈ pushForms,
      (pushFirst { State.reset with pendingTicks := 4 } (pairWord State.reset f.2)).broken = false := by decide

theorem witness_PopResults : (popFirst State.reset).2.broken = false ∧ (popSecond State.reset).2.broken = false := by
  decide

/-- With Z set and C set, half of the conditional calls are taken and half are not. -/
theorem witness_CallAndRestartResults :
    (∃ f ∈ callForms 0xFFFF State.reset, f.2.2 = false) ∧ (∃ f ∈ callForms 0xFFFF State.reset, f.2.2 = true) ∧
    (pushFirst { State.reset with pendingTicks := 4 } State.reset.regs.pc).broken = false ∧
    (pushBoth { State.reset with pendingTicks := 4 } State.reset.regs.pc).broken = false := by decide

theorem witness_ReturnResults :
    (∃ f ∈ retForms State.reset, f.2.2 = false) ∧
    (∀ f ∈ retForms State.reset,
      (popFirst { State.reset with pendingTicks := State.reset.pendingTicks + 4 * f.2.1 }).2.broken = false ∧
      (popSecond { State.reset with pendingTicks := State.reset.pendingTicks + 4 * f.2.1 }).2.broken = false) ∧
    (popFirst State.reset).2.broken = false ∧ (popSecond State.reset).2.broken = false := by decide

theorem witness_RotateAndShiftResults :
    ∀ z ∈ [CbOperand.reg .b, .atHl],
      (readAt State.reset z).2.broken = false ∧ (writeAt (readAt State.reset z).2 0x80 z).broken = false := by decide

theorem witness_BitTestResults : ∀ z ∈ [CbOperand.reg .a, .atHl], (readAt State.reset z).2.broken = false := by decide

/-- The operand at hl reads 0x00 after reset: RES 7 writes 0x00 back, SET 7 writes 0x80. -/
theorem witness_BitClearAndSetResults :
    (readAt State.reset .atHl).2.broken = false ∧
    (Instr.res7AtHl, 7, CbOperand.atHl) ∈ resForms ∧
    (∀ k < 8, (0x00#8).getLsbD k = (decide (k ≠ 7) && (readAt State.reset .atHl).1.getLsbD k)) ∧
    (Instr.set7AtHl, 7, CbOperand.atHl) ∈ setForms ∧
    (∀ k < 8, (0x80#8).getLsbD k = (decide (k = 7) || (readAt State.reset .atHl).1.getLsbD k)) := by decide

theorem witness_PrefixForwardsToSecondary : (eventAt 8 State.reset).Quiet 8 := quiet_eventAt 8 rfl rfl rfl

theorem witness_NopDiAndEiResults : nearlyFullHeap.events.length < 64 ∧ 64 ≤ fullHeap.events.length := by decide

theorem witness_EnableImeFiresInTheNextAccess :
    nearlyFullHeap.broken = false ∧ nearlyFullHeap.events.length < 64 ∧ nearlyFullHeap.env.callbacks = [] := by decide

theorem witness_HaltBugOrHaltSkip :
    (let s := { State.reset with ie := 0x01, ifr := 0xE1 }
     s.broken = false ∧ s.ime = false ∧ s.ifr &&& s.ie &&& 0x1F#8 ≠ 0x00#8) ∧
    (let s := { State.reset with ie := 0x10, ifr := 0xF0, ime := true }
     s.broken = false ∧ s.ime = true ∧ s.ifr &&& s.ie &&& 0x1F#8 ≠ 0x00#8) ∧
    (¬ State.reset.ifr &&& State.reset.ie &&& 0x1F#8 ≠ 0x00#8 ∧ State.reset.events = []) ∧
    (let s := { eventAt 0 State.reset with params := ⟨0, false⟩ }
     ¬ s.ifr &&& s.ie &&& 0x1F#8 ≠ 0x00#8 ∧ s.params.haltSkipCap = 0) := by decide

/-- HALT with the Timer enabled and its event due at d; its callback requests the Timer. -/
def waiting (d : Nat) (ime wake : Bool) : State :=
  { withEvents State.reset [(.timerTick, d)] [[.request 2]] with ie := 0x04, ime := ime, params := ⟨1, wake⟩ }

/-- HALT's wake after one iteration, with every outcome; and the two ways the skip ends without an iteration, one
iteration that raises a fatal condition, and one after which nothing is available yet. -/
theorem witness_HaltSkipAdvancesToTheNextEvent :
    (∀ s ∈ [waiting 0 true false, waiting 104 true false, waiting 104 false true, waiting 104 false false],
      (s.ime = true ∨ s.ifr &&& s.ie &&& 0x1F#8 = 0x00#8) ∧
      (haltSkipLoop s.params.haltSkipCap { s with cpuMode := .halted }).broken = false ∧
      ∃ d ∈ [0, 104],
        s.broken = false ∧ s.params.haltSkipCap = 0 + 1 ∧ s.ifr &&& s.ie &&& 0x1F#8 = 0x00#8 ∧
        (∃ e ∈ s.events, e.dueTick = d) ∧ (∀ e ∈ s.events, d ≤ e.dueTick) ∧
        (({ s with cpuMode := .halted } : State).tick (d - s.currentTick)).broken = false ∧
        (let t := ({ s with cpuMode := .halted } : State).tick (d - s.currentTick)
         t.ifr &&& t.ie &&& 0x1F#8 ≠ 0x00#8 ∧ t.ime = s.ime)) ∧
    (let s := { State.reset with ie := 0x10, ifr := 0xF0, ime := true }
     s.broken = false ∧ s.ime = true ∧ s.ifr &&& s.ie &&& 0x1F#8 ≠ 0x00#8) ∧
    (State.reset.events = [] ∧ State.reset.ifr &&& State.reset.ie &&& 0x1F#8 = 0x00#8 ∧
      (haltSkipLoop 1 State.reset).broken = true) ∧
    ((overrunAt 7).ifr &&& (overrunAt 7).ie &&& 0x1F#8 = 0x00#8 ∧ (∃ e ∈ (overrunAt 7).events, e.dueTick = 7) ∧
      (∀ e ∈ (overrunAt 7).events, 7 ≤ e.dueTick) ∧ ((overrunAt 7).tick 7).broken = true) ∧
    (let s := withEvents { State.reset with ie := 0x04, ime := true } [(.dma, 7), (.timerTick, 9)] [[], [.request 2]]
     (s.tick 7).broken = false ∧ (s.tick 7).ifr &&& (s.tick 7).ie &&& 0x1F#8 = 0x00#8 ∧
       (haltSkipLoop 2 s).currentTick = 9 ∧ (haltSkipLoop 2 s).broken = false) := by decide

/-- The four cases of STOP: not armed, a duplicate affected event, an overdue one, and a switch with one due now. -/
theorem witness_StopSwitchesSpeedOrIsRefused :
    State.reset.env.speedSwitchArmed = false ∧
    (let arm := fun (s : State) => { s with env := { s.env with speedSwitchArmed := true } }
     let ids := fun (s : State) => (s.events.filter
       (fun e => e.id == .displayMode || e.id == .audioSample || e.id == .frameSequencer)).map (·.id)
     let two := arm (withEvents State.reset [(.audioSample, 5), (.audioSample, 6)] [])
     let late := arm (withEvents { State.reset with currentTick := 1 } [(.displayMode, 0)] [])
     let good := arm (withEvents State.reset [(.displayMode, 0), (.timerTick, 3), (.frameSequencer, 101)] [])
     two.env.speedSwitchArmed = true ∧ ¬ (ids two).Nodup ∧
     late.env.speedSwitchArmed = true ∧ (ids late).Nodup ∧ (∃ e ∈ late.events, e.dueTick < late.currentTick) ∧
     good.env.speedSwitchArmed = true ∧ (ids good).Nodup ∧ (∀ e ∈ good.events, good.currentTick ≤ e.dueTick) ∧
     good.broken = false ∧ good.events.length ≤ 64) := by decide

theorem witness_OpcodeTableConformance :
    (eventAt 8 State.reset).Quiet 8 ∧ (eventAt 8 State.reset).events.length < 64 ∧
    ∀ b0 ∈ [0x00#8, 0xCB#8, 0xFF#8], b0 ≠ 0x76#8 ∧ b0 ≠ 0x10#8 ∧ ∀ f ∈ illegalForms, b0 ≠ f.2 :=
  ⟨quiet_eventAt 8 rfl rfl rfl, by decide, by decide⟩

/-- A row for each pattern of kept flags: all four, C alone, Z alone, N alone, and Z with C. -/
theorem witness_FlagsChangeOnlyWhereTheTableSays :
    (encode .nop = [0x00] ∧ (∃ t, exec .nop State.reset = .next t) ∧ (tableRow 0x00 0x00).flags = keepAll) ∧
    (encode .set7A = [0xCB, 0xFF] ∧ (∃ t, exec .set7A State.reset = .next t) ∧ (tableRow 0xCB 0xFF).flags = keepAll) ∧
    (encode .incB = [0x04] ∧ (∃ t, exec .incB State.reset = .next t) ∧ (tableRow 0x04 0x00).flags.c = .keep) ∧
    (encode .decAtHl = [0x35] ∧ (∃ t, exec .decAtHl State.reset = .next t) ∧ (tableRow 0x35 0x00).flags.c = .keep) ∧
    (encode .bit0B = [0xCB, 0x40] ∧ (∃ t, exec .bit0B State.reset = .next t) ∧
      (tableRow 0xCB 0x40).flags.c = .keep) ∧
    (encode .addHlHl = [0x29] ∧ (∃ t, exec .addHlHl State.reset = .next t) ∧ (tableRow 0x29 0x00).flags.z = .keep) ∧
    (encode .scf = [0x37] ∧ (∃ t, exec .scf State.reset = .next t) ∧ (tableRow 0x37 0x00).flags.z = .keep) ∧
    (encode .ccf = [0x3F] ∧ (∃ t, exec .ccf State.reset = .next t) ∧ (tableRow 0x3F 0x00).flags.z = .keep) ∧
    (encode .daa = [0x27] ∧ (∃ t, exec .daa State.reset = .next t) ∧ (tableRow 0x27 0x00).flags.n = .keep) ∧
    (encode .cpl = [0x2F] ∧ (∃ t, exec .cpl State.reset = .next t) ∧ (tableRow 0x2F 0x00).flags.z = .keep ∧
      (tableRow 0x2F 0x00).flags.c = .keep) ∧
    (tableRow 0x00 0x00).flags.h = .keep ∧ ∃ t, dispatchInterrupt true State.reset = .next t :=
  ⟨⟨rfl, ⟨_, rfl⟩, by decide⟩, ⟨rfl, ⟨_, rfl⟩, by decide⟩, ⟨rfl, ⟨_, rfl⟩, by decide⟩, ⟨rfl, ⟨_, rfl⟩, by decide⟩,
   ⟨rfl, ⟨_, rfl⟩, by decide⟩, ⟨rfl, ⟨_, rfl⟩, by decide⟩, ⟨rfl, ⟨_, rfl⟩, by decide⟩, ⟨rfl, ⟨_, rfl⟩, by decide⟩,
   ⟨rfl, ⟨_, rfl⟩, by decide⟩, ⟨rfl, ⟨_, rfl⟩, by decide, by decide⟩, by decide, _, rfl⟩

theorem witness_MemoryFrame :
    (eventAt 8 State.reset).Quiet 8 ∧ Instr.pushAf ≠ .halt ∧ (∃ t, exec .pushAf (eventAt 8 State.reset) = .next t) ∧
      (0xFFFE : Word) ∉ storedAt .pushAf (eventAt 8 State.reset) :=
  ⟨quiet_eventAt 8 rfl rfl rfl, by decide, ⟨_, rfl⟩, by decide⟩

theorem witness_StoredBytesShowOnTheBus :
    (eventAt 8 State.reset).Quiet 8 ∧ Memory.wf (eventAt 8 State.reset).env.mem ∧
      ∃ f ∈ callForms 0xFFFF (eventAt 8 State.reset), f.2.2 = true :=
  ⟨quiet_eventAt 8 rfl rfl rfl, by decide, by decide⟩

theorem witness_ControlStateFrame :
    (let s := { State.reset with ime := true }
     s.ime = true ∧ (∃ t, exec .reti s = .next t) ∧ (∀ n8, Instr.reti ≠ .stop n8) ∧ Instr.reti ≠ .halt ∧
       Instr.reti ≠ .di) :=
  ⟨rfl, ⟨_, rfl⟩, (fun _ h => nomatch h), by decide, by decide⟩

theorem witness_StepReturnsItsTicks : ∃ t, step State.reset = .next t := ⟨_, rfl⟩

theorem witness_BusReadContract :
    ((overrunAt 4).tick 4).broken = true ∧ (State.reset.tick 4).broken = false ∧ (State.reset.tick 4).env.reads = [] ∧
    (0xFF0E : Word) ≠ 0xFF0F#16 ∧ (0xFF0E : Word) ≠ 0xFFFF#16 ∧
    (({ State.reset with env := { State.reset.env with reads := [⟨some 0x5A, [.request 2]⟩] } } : State).tick 4).env.reads =
      [⟨some 0x5A, [.request 2]⟩] ∧
    ({ State.reset with ime := true } : State).ime = true := by decide

theorem witness_BusWriteContract :
    ((overrunAt 4).tick 4).broken = true ∧ (State.reset.tick 4).broken = false ∧
    (0xFF10 : Word) ≠ 0xFF0F#16 ∧ (0xFF10 : Word) ≠ 0xFFFF#16 ∧ (State.reset.tick 4).env.writes = [] := by decide

theorem witness_MemoryIsCanonical :
    Memory.wf [(0, 0x01), (65535, 0x02)] ∧ (65535 : Nat) < 65536 ∧
      ∀ x ∈ [0, 1, 65534, 65535], Memory.read [(0, 0x01), (65535, 0x02)] x = Memory.read [(0, 0x01), (65535, 0x02)] x := by
  decide

theorem witness_LeastSourceIsSelected :
    State.reset.selectSource = none ∧
    ({ State.reset with ie := 0xFF, ifr := 0xE1 } : State).selectSource = some 0 ∧
    ({ State.reset with ie := 0xF0, ifr := 0xFF } : State).selectSource = some 4 := by decide

/-- The dispatch of DispatchSequence up to its last tick: whether each of its six parts is broken, in order. -/
def dispatchParts (fromHalt : Bool) (s : State) : List Bool :=
  let t1 := s.tick 4
  let t2 := (t1.setSp (s.regs.sp - 1)).memWrite (s.regs.sp - 1) s.regs.pc.hi
  let t3 := if fromHalt then t2 else t2.tick 2
  let t5 := t3.selectAndClear.2.tick (if fromHalt then 4 else 2)
  let t6 := ({ t5 with ime := false }.setSp (s.regs.sp - 2)).memWrite (s.regs.sp - 2) s.regs.pc.lo
  let t7 := t6.tick 4
  [t1.broken, t2.broken, t3.broken, t5.broken, t6.broken, t7.broken]

/-- Each part of the dispatch is the first to break for some due tick of the overrunning event, and none for a late
one. -/
theorem witness_DispatchSequence :
    [1, 5, 9, 11, 13, 17, 21].map (fun d => (dispatchParts false (overrunAt d)).idxOf true) = [0, 1, 2, 3, 4, 5, 6] ∧
    [1, 5, 9, 13, 17, 21].map (fun d => (dispatchParts true (overrunAt d)).idxOf true) = [0, 1, 3, 4, 5, 6] := by
  decide

theorem witness_DispatchInQuietTime :
    (eventAt 20 State.reset).Quiet 20 ∧ Memory.wf (eventAt 20 State.reset).env.mem ∧
    (let s := { State.reset with regs := { State.reset.regs with sp := 0x0000 } }
     s.Quiet 20 ∧ s.regs.sp - 1 = 0xFFFF ∧ coreOwned (s.regs.sp - 2) = false) :=
  ⟨quiet_eventAt 20 rfl rfl rfl, by decide, quiet_of_idle 20 rfl rfl rfl rfl, by decide, by decide⟩

/-- A state that runs the bytes from reset with IME set and every source requested and enabled. -/
def interrupted (bs : List Byte) : State := eventAt 48 { resetWith bs with ime := true, ie := 0xFF, ifr := 0xFF }

/-- NOP, which charges no pending tick, and CALL, which charges one internal cycle, each with a source to take. -/
theorem witness_InterruptIsTakenAtTheStepEnd :
    (∀ s ∈ [interrupted [0x00], interrupted [0xCD, 0x34, 0x12]],
      s.broken = false ∧ s.env.reads = [] ∧ s.env.writes = [] ∧ (∀ e ∈ s.events, s.currentTick + 48 < e.dueTick) ∧
      Memory.wf s.env.mem ∧ s.peek s.regs.pc ∉ [0x76#8, 0x10#8, 0xFB#8] ∧
      ∀ f ∈ illegalForms, s.peek s.regs.pc ≠ f.2) ∧
    (let s := interrupted [0x00]
     let u := fetched s 1
     decode (stream s) = .ok (.nop, [0x00, 0x00]) ∧ u.broken = false ∧ u.pendingTicks = 0 ∧
       u.ime = true ∧ u.ifr &&& u.ie &&& 0x1F#8 ≠ 0x00#8 ∧ leastSource u.ie u.ifr = some 0 ∧
       coreOwned (u.regs.sp - 1) = false ∧ coreOwned (u.regs.sp - 2) = false) ∧
    exec .nop (fetched (interrupted [0x00]) 1) = .next (fetched (interrupted [0x00]) 1) ∧
    (let s := interrupted [0xCD, 0x34, 0x12]
     decode (stream s) = .ok (.callN16 0x1234, []) ∧
     ∃ u, exec (.callN16 0x1234) (fetched s 3) = .next u ∧ u.broken = false ∧ 0 < u.pendingTicks ∧
       (u.tick u.pendingTicks).broken = false ∧ u.ime = true ∧ leastSource u.ie u.ifr = some 0 ∧
       coreOwned (u.regs.sp - 1) = false ∧ coreOwned (u.regs.sp - 2) = false) :=
  ⟨by decide, by decide, rfl, by decide, _, rfl, by decide, by decide, by decide, by decide, by decide, by decide,
   by decide⟩

theorem witness_QuietStepWithoutInterrupt :
    (let s := eventAt 40 (resetWith [0xCD, 0x34, 0x12])
     s.Quiet 40 ∧ s.ime = false ∧ s.haltBug = false ∧ (Instr.callN16 0x1234).wellFormed = true ∧
       decode [s.peek s.regs.pc, s.peek (s.regs.pc + 1), s.peek (s.regs.pc + 2)] = .ok (.callN16 0x1234, []) ∧
       s.peek s.regs.pc ∉ [0x76#8, 0x10#8, 0xFB#8, 0xD9#8] ∧ ∀ f ∈ illegalForms, s.peek s.regs.pc ≠ f.2) :=
  ⟨quiet_eventAt 40 rfl rfl rfl, rfl, rfl, rfl, by decide, by decide, by decide⟩

theorem witness_AddAndCancelEvents : nearlyFullHeap.events.length < 64 ∧ 64 ≤ fullHeap.events.length := by decide

theorem witness_PopTakesAnyLeastEvent :
    State.reset.events = [] ∧
    (let s := withEvents State.reset [(.dma, 7), (.timerTick, 7), (.serialClock, 8)] []
     s.events ≠ [] ∧ ∃ e ∈ s.events, e.id = .timerTick ∧ ∀ f ∈ s.events, e.dueTick ≤ f.dueTick) := by decide

theorem witness_CallbacksFireInDueOrder :
    (let s := withEvents State.reset [(.dma, 4), (.timerTick, 2)] []
     (s.tick 4).broken = false ∧ (∃ e ∈ s.events, e.dueTick ≤ s.currentTick + 4) ∧
       (∀ e ∈ s.events, s.currentTick + 1 < e.dueTick)) ∧
    (let s := { State.reset with currentTick := 9, events := [⟨.enableInterrupts, 4, .enableIme, 0⟩] }
     (∃ e t, s.popFirstEvent = (some e, t) ∧ e.callback = .enableIme) ∧
       s.runFirstEvent.env.log = [.callback 9 .enableInterrupts 5]) :=
  ⟨by decide, ⟨_, _, rfl, rfl⟩, by decide⟩

theorem witness_EmptyHeapPopIsUnreachable :
    State.reset.broken = false ∧ State.reset.brokenReason = none ∧ ∃ t, step State.reset = .next t :=
  ⟨rfl, rfl, _, rfl⟩

/-- Which of two accesses is the first to break, counted from 0, when the overrunning event is due at d. -/
def firstBroken (accesses : State → List State) (d : Nat) : Nat :=
  ((accesses (overrunAt d)).map (fun u => u.broken)).idxOf true

/-- The first and the second access of an instruction that has two breaks first, with the event due at 4 and at 5. -/
theorem witness_FatalConditionEndsTheStep :
    (∀ f ∈ loadForms 0x80 0x1234 (overrunAt 4), ((overrunAt 4).memRead f.2.2).2.broken = true) ∧
    (∀ f ∈ storeForms 0x80 0x1234 writeOverrun, (writeOverrun.memWrite f.2.1 f.2.2).broken = true) ∧
    [4, 5].map (firstBroken (fun s => [(s.memRead 0x014D).2, (s.memRead 0x014D).2.memWrite 0x014D 0x01])) = [0, 1] ∧
    [4, 5].map (firstBroken (fun s =>
      let w := s.memWrite 0xFFFF s.regs.sp.lo
      [w, w.memWrite 0x0000 s.regs.sp.hi])) = [0, 1] ∧
    [4, 5].map (firstBroken (fun s =>
      let u := { s with pendingTicks := 4 }
      [pushFirst u (pairWord s .af), pushBoth u (pairWord s .af)])) = [0, 1] ∧
    [4, 5].map (firstBroken (fun s => [(popFirst s).2, (popSecond s).2])) = [0, 1] ∧
    (∃ f ∈ callForms 0x1234 (overrunAt 4), f.2.2 = true) ∧ (∃ f ∈ retForms (overrunAt 4), f.2.2 = true) ∧
    (State.reset.raiseFatal .haltSkipStuck).broken = true :=
  ⟨by decide, by decide, by decide, by decide, by decide, by decide, by decide, by decide, by decide⟩

/-- The length of the row the fetch reads, and which of its three reads is the first to break. -/
def fetchBreak (d : Nat) : Nat × Nat :=
  let s := (overrunAt d).placeAt 0x0100 [0xCD, 0x34, 0x12]
  let r0 := s.beginExecute.memRead 0x0100
  let r1 := (r0.2.setPc 0x0101).memRead 0x0101
  let r2 := (r1.2.setPc 0x0102).memRead 0x0102
  ((tableRow r0.1 0x00).length, [r0.2.broken, r1.2.broken, r2.2.broken].idxOf true)

/-- With the event due at 4, 5 or 9 the first, second or third byte of a CALL is not read. -/
theorem witness_FatalFetchEndsTheStep :
    (overrunAt 4).broken = false ∧ (fetchBreak 4).2 = 0 ∧ fetchBreak 5 = (3, 1) ∧ fetchBreak 9 = (3, 2) :=
  ⟨by decide, by decide, by decide, by decide⟩

end Sys2Proof.Tests
end

/-! ## State: the invariant of the states between two steps, control state, flags and registers -/

namespace Sys2Proof.Machine

/-! ### What the speed switch and the halt skip can do -/

/-- A relation that one rescheduling has, and that composes, holds between the ends of the loop of the speed switch. -/
theorem State.rescheduleAll_induction {R : State → State → Prop} (refl : ∀ s, R s s)
    (trans : ∀ {s t u}, R s t → R t u → R s u) (late : Nat) (reschedule : ∀ s e, R s (State.reschedule s late e))
    (es : List Event) (s : State) : R s (s.rescheduleAll late es) := by
  induction es generalizing s with
  | nil => exact refl s
  | cons e es ih =>
    simp only [State.rescheduleAll]
    split
    · exact reschedule s e
    · exact trans (reschedule s e) (ih _)

theorem State.rescheduleAll_sameClock (s : State) (late : Nat) (es : List Event) :
    s.SameClock (s.rescheduleAll late es) :=
  State.rescheduleAll_induction State.SameClock.refl State.SameClock.trans late
    (fun s e => State.SameClock.trans (t := s.cancelEventsById e.id) ⟨rfl, rfl⟩
      (State.addEventRelative_sameClock _ _ _ _)) es s

@[simp] theorem State.rescheduleAll_ime (s : State) (late : Nat) (es : List Event) :
    (s.rescheduleAll late es).ime = s.ime :=
  State.rescheduleAll_induction (R := fun s t => t.ime = s.ime) (fun _ => rfl) (fun h k => k.trans h) late
    (fun s e => (s.cancelEventsById e.id).addEventRelative_ime _ _ _) es s

/-- Everything STOP can do where it answers a next state: it reschedules events, and unless that was fatal it inverts
the speed mode and disarms the switch (rules R915, R1080). -/
theorem stopCpu_next {s t : State} (h : stopCpu s = .next t) :
    ∃ es, ((s.rescheduleAll 0 es).broken = true ∧ t = s.rescheduleAll 0 es) ∨
      ((s.rescheduleAll 0 es).broken = false ∧
        t = { s.rescheduleAll 0 es with
          doubleSpeed := !(s.rescheduleAll 0 es).doubleSpeed
          env := { (s.rescheduleAll 0 es).env with speedSwitchArmed := false } }) := by
  refine ⟨s.events.filter (fun e => affected e.id), ?_⟩
  unfold stopCpu speedSwitchThen at h
  simp only at h
  split at h
  · split at h
    · cases h
    · split at h
      · cases h
      · split at h
        · rename_i hb
          cases h
          exact .inl ⟨hb, rfl⟩
        · rename_i hb
          cases h
          exact .inr ⟨by simpa using hb, rfl⟩
  · cases h

section
variable {M F : State → Prop}

/-- The halt skip keeps a property that its ticks keep (rule R1050). -/
theorem AccessInvariant.haltSkipLoop (h : AccessInvariant M F)
    (stuck : ∀ {s}, M s → F (s.raiseFatal .haltSkipStuck)) (n : Nat) {s : State} (hs : M s) :
    Carries M F (haltSkipLoop n s) := by
  induction n generalizing s with
  | zero =>
    unfold Machine.haltSkipLoop
    split
    · exact h.carries hs
    · split <;> exact .inl ⟨rfl, stuck hs⟩
  | succ n ih =>
    unfold Machine.haltSkipLoop
    split
    · exact h.carries hs
    · split
      · exact .inl ⟨rfl, stuck hs⟩
      · simp only
        split
        · exact h.carries (h.tick _ hs)
        · exact ih (h.tick _ hs)

/-- HALT keeps a property that reads neither cpuMode nor haltBug (rule R910). -/
theorem OpInvariant.haltCpu (h : OpInvariant M F) (mode : ∀ {s} m, M s → M { s with cpuMode := m })
    (bug : ∀ {s} b, M s → M { s with haltBug := b }) (stuck : ∀ {s}, M s → F (s.raiseFatal .haltSkipStuck))
    {s : State} (hs : M s) : (haltCpu s).Ends (Carries M F) := by
  unfold Machine.haltCpu haltSkipThen
  simp only
  split
  · have hu := h.haltSkipLoop stuck s.params.haltSkipCap (mode .halted hs)
    generalize Machine.haltSkipLoop s.params.haltSkipCap { s with cpuMode := .halted } = u at hu
    rcases hu with ⟨hb, hf⟩ | ⟨hb, hm⟩
    · rw [if_pos hb]
      exact .inl ⟨hb, hf⟩
    · rw [if_neg (by simp [hb])]
      split
      · exact h.dispatchInterrupt (mode .running hm) true
      · exact h.carries (mode .running hm)
  · exact h.carries (bug true hs)

end

/-! ### The invariant between two steps -/

/-- Inside a step the state is Sound and the CPU runs; only the halt skip, within HALT, leaves Running (rule R132). -/
def State.SoundRunning (s : State) : Prop := s.Sound ∧ s.cpuMode = .running

theorem State.SoundRunning.congr {s t : State} (h : s.SoundRunning) (hi : t.ifr = s.ifr) (hm : t.env.mem = s.env.mem)
    (he : t.events = s.events) (hn : t.nextSeq = s.nextSeq) (hp : t.params = s.params) (hb : t.broken = s.broken)
    (hr : t.brokenReason = s.brokenReason) (hc : t.currentTick = s.currentTick) (hmode : t.cpuMode = s.cpuMode) :
    t.SoundRunning :=
  ⟨h.1.congr hi hm he hn hp hb hr hc, hmode.trans h.2⟩

theorem State.Sound.raiseFatal {s : State} (h : s.Sound) (r : FatalReason) : (s.raiseFatal r).Sound :=
  ⟨⟨h.ifHigh, h.memory, h.capacity, h.seqRising, h.seqGiven, h.cap, rfl⟩, fun hb => by simp at hb⟩

theorem State.Sound.addEventRelative {s : State} (h : s.Sound) (i : EventId) (d : Nat) (c : Callback) :
    (s.addEventRelative i d c).Sound := by
  refine ⟨State.addEventRelative_wf h.toWf i d c, ?_⟩
  unfold State.addEventRelative
  split
  · simp
  · intro hb e he
    rcases List.mem_append.1 he with he | he
    · exact h.notOverdue hb e he
    · obtain rfl := List.mem_singleton.1 he
      simp

theorem soundRunning_op : OpInvariant State.SoundRunning State.Sound where
  final h := h.1
  tick n h := ⟨State.tick_sound h.1.toWf n, (State.tick_sameCore _ n).cpuMode.trans h.2⟩
  read x h := ⟨State.memRead_sound h.1.toWf x, (State.memRead_cpuMode _ x).trans h.2⟩
  write x v h := ⟨State.memWrite_sound h.1.toWf x v, (State.memWrite_cpuMode _ x v).trans h.2⟩
  regs _ h := h.congr rfl rfl rfl rfl rfl rfl rfl rfl rfl
  ime _ h := h.congr rfl rfl rfl rfl rfl rfl rfl rfl rfl
  clear _ hk h :=
    ⟨⟨⟨ifHigh_cleared hk h.1.ifHigh, h.1.memory, h.1.capacity, h.1.seqRising, h.1.seqGiven, h.1.cap, h.1.reason⟩,
      h.1.notOverdue⟩, h.2⟩

/-- The halt skip leaves Running, and HALT resumes in it unless the skip was fatal (rule R1050). -/
theorem haltSkipThen_soundRunning {s : State} (h : s.SoundRunning) :
    (haltSkipThen .next s).Ends (Carries State.SoundRunning State.Sound) := by
  have hu : (haltSkipLoop s.params.haltSkipCap { s with cpuMode := .halted }).Sound :=
    haltSkipLoop_sound (h.1.congr rfl rfl rfl rfl rfl rfl rfl rfl)
  unfold haltSkipThen
  simp only
  split
  · rename_i hb
    exact .inl ⟨hb, hu⟩
  · exact soundRunning_op.carries ⟨hu.congr rfl rfl rfl rfl rfl rfl rfl rfl, rfl⟩

theorem stopCpu_soundRunning {s : State} (h : s.SoundRunning) :
    (stopCpu s).Ends (Carries State.SoundRunning State.Sound) := by
  refine Result.ends_iff.2 (fun t ht => ?_)
  obtain ⟨es, ⟨-, rfl⟩ | ⟨-, rfl⟩⟩ := stopCpu_next ht
  all_goals
    have hu : (s.rescheduleAll 0 es).SoundRunning :=
      ⟨State.rescheduleAll_sound h.1 0 es, (State.rescheduleAll_sameCore s 0 es).cpuMode.trans h.2⟩
  · exact soundRunning_op.carries hu
  · exact soundRunning_op.carries (hu.congr rfl rfl rfl rfl rfl rfl rfl rfl rfl)

theorem soundRunning_exec : ExecInvariant State.SoundRunning State.Sound where
  toOpInvariant := soundRunning_op
  flags _ h := h.congr rfl rfl rfl rfl rfl rfl rfl rfl rfl
  pending _ h := h.congr rfl rfl rfl rfl rfl rfl rfl rfl rfl
  haltBug _ h := h.congr rfl rfl rfl rfl rfl rfl rfl rfl rfl
  fatal r h := h.1.raiseFatal r
  schedule i d c h := soundRunning_op.carries
    ⟨h.1.addEventRelative i d c, (State.addEventRelative_sameCore _ i d c).cpuMode.trans h.2⟩
  halt := haltSkipThen_soundRunning
  stop := stopCpu_soundRunning

/-! ### The pending ticks at the end of a step -/

theorem readThen_ends {P : State → Prop} (broken : ∀ t, t.broken = true → P t) (x : Word) {k : Byte → State → Result}
    (hk : ∀ v t, (k v t).Ends P) (s : State) : (readThen x k s).Ends P := by
  cases hb : (s.memRead x).2.broken with
  | true => rw [readThen_broken hb]; exact broken _ hb
  | false => rw [readThen_live hb]; exact hk _ _

/-- The fetch ends a step only in a broken state; otherwise the step ends as what follows the fetch does. -/
theorem fetchInstrThen_ends {P : State → Prop} (broken : ∀ t, t.broken = true → P t) {k : Instr → State → Result}
    (hk : ∀ i t, (k i t).Ends P) (s : State) : (fetchInstrThen k s).Ends P := by
  unfold fetchInstrThen opcodeFetchThen fetch8Then
  refine readThen_ends broken _ (fun b0 t => ?_) s
  simp only
  split
  · exact readThen_ends broken _ (fun _ _ => readThen_ends broken _ (fun _ _ => hk _ _) _) _
  · exact readThen_ends broken _ (fun _ _ => hk _ _) _
  · exact hk _ _

/-- A dispatch accrues no pending ticks: it charges its own (rule R1030). -/
theorem pendingTicks_op (n : Nat) : OpInvariant (fun s => s.pendingTicks = n) (fun _ => True) where
  final _ := trivial
  tick n h := (State.tick_sameCore _ n).pendingTicks.trans h
  read x h := (State.memRead_pendingTicks _ x).trans h
  write x v h := (State.memWrite_pendingTicks _ x v).trans h
  regs _ h := h
  ime _ h := h
  clear _ _ h := h

/-- The step has charged what its body accrued (rule R130). -/
def State.Charged (s : State) : Prop := s.broken = false → s.pendingTicks = 0

theorem interruptCheck_charged {s : State} (h : s.pendingTicks = 0) : (interruptCheck s).Ends State.Charged := by
  refine ((pendingTicks_op 0).interruptCheck h).mono (fun t ht hlive => ?_)
  rcases ht with ⟨hb, -⟩ | ⟨-, hp⟩
  · simp [hlive] at hb
  · exact hp

theorem State.Charged.of_broken {s : State} (h : s.broken = true) : s.Charged := fun hlive => by simp [h] at hlive

theorem completeStep_charged (r : Result) : (completeStep r).Ends State.Charged := by
  cases r with
  | fault _ => trivial
  | refused _ => trivial
  | next s =>
    unfold completeStep
    simp only
    split
    · rename_i hb
      exact State.Charged.of_broken hb
    · unfold chargePendingThen
      split
      · unfold tickThen
        simp only
        split
        · rename_i hb
          exact State.Charged.of_broken hb
        · exact interruptCheck_charged rfl
      · exact interruptCheck_charged (by omega)

theorem step_charged (s : State) : Result.Ends State.Charged (step s) := by
  unfold step
  split
  · trivial
  · exact fetchInstrThen_ends (fun _ => State.Charged.of_broken) (fun _ _ => completeStep_charged _) _

theorem step_of_broken {s : State} (h : s.broken = true) : step s = .fault (.broken s.brokenReason) := by
  simp [step, h]

theorem step_soundRunning {s : State} (h : s.Inv) :
    Result.Ends (Carries State.SoundRunning State.Sound) (step s) := by
  cases hb : s.broken with
  | true => rw [step_of_broken hb]; trivial
  | false => exact soundRunning_exec.step ⟨h.toSound.congr rfl rfl rfl rfl rfl rfl rfl rfl, h.running hb⟩

/-- Settles O9: the step keeps SoundRunning, and its end has charged the pending ticks. -/
theorem everyStepKeepsTheInvariant : Obligations.EveryStepKeepsTheInvariant := by
  intro s t hs ht
  have hsound := Result.ends_iff.1 (step_soundRunning hs) t ht
  have hcharged : t.Charged := Result.ends_iff.1 (step_charged s) t ht
  rcases hsound with ⟨hb, h⟩ | ⟨-, h⟩
  · exact ⟨h, hcharged, fun hlive => by simp [hb] at hlive⟩
  · exact ⟨h.1, hcharged, fun _ => h.2⟩

end Sys2Proof.Machine

namespace Sys2Proof.Machine

/-! ### Register pairs -/

theorem Word.toNat_ofBytes (hi lo : Byte) : (Word.ofBytes hi lo).toNat = 256 * hi.toNat + lo.toNat := by
  have h := Nat.shiftLeft_add_eq_or_of_lt lo.isLt hi.toNat
  rw [Word.ofBytes, BitVec.toNat_append, ← h, Nat.shiftLeft_eq]
  omega

/-- Settles O13: the laws of the register file, with a pair read as the number its two bytes make. -/
theorem registerPairsAreViews : Obligations.RegisterPairsAreViews := fun g r _ v w =>
  ⟨g.get8_set8_same v r, g.get8_set8_ne v, g.set8_sp v r, g.set8_pc v r, Word.toNat_ofBytes g.b g.c,
   Word.toNat_ofBytes g.d g.e, Word.toNat_ofBytes g.h g.l, rfl, rfl, rfl, rfl, rfl, g.get16_set16_same w⟩

/-! ### The flag byte -/

theorem Flags.unpack_pack (f : Flags) : Flags.unpack f.pack = f := by
  obtain ⟨z, n, h, c⟩ := f
  revert z n h c
  decide

theorem Flags.pack_low (f : Flags) : f.pack &&& 0x0F#8 = 0x00#8 := by
  obtain ⟨z, n, h, c⟩ := f
  revert z n h c
  decide

theorem Flags.toNat_pack (f : Flags) : f.pack.toNat = Forms.flagByte f := by
  obtain ⟨z, n, h, c⟩ := f
  revert z n h c
  decide

/-- Two bytes with the same flags and the same low nibble are equal. -/
theorem Flags.byte_ext {v w : Byte} (h : Flags.unpack v = Flags.unpack w) (hlow : v &&& 0x0F#8 = w &&& 0x0F#8) :
    v = w := by
  simp only [Flags.unpack, Flags.mk.injEq] at h
  obtain ⟨h7, h6, h5, h4⟩ := h
  have low : ∀ i < 4, v.getLsbD i = w.getLsbD i := fun i hi => by
    have hm : (0x0F#8).getLsbD i = true := by revert i; decide
    simpa [hm] using congrArg (fun x : Byte => x.getLsbD i) hlow
  refine BitVec.eq_of_getLsbD_eq (fun i hi => ?_)
  by_cases hi4 : i < 4
  · exact low i hi4
  · interval_cases i <;> assumption

theorem Flags.pack_unpack (v : Byte) : (Flags.unpack v).pack = v &&& 0xF0#8 := by
  refine Flags.byte_ext ?_ ?_
  · rw [Flags.unpack_pack]
    simp [Flags.unpack]
  · rw [Flags.pack_low, BitVec.and_assoc]
    simp

/-- Settles O12: packing is checked on the 16 combinations, and a byte is its four flags and its low nibble. -/
theorem flagByteRoundTrip : Obligations.FlagByteRoundTrip :=
  ⟨fun f => ⟨f.unpack_pack, f.pack_low, f.toNat_pack⟩, Flags.pack_unpack⟩

/-! ### Launch -/

theorem State.addEventRelative_of_room {s : State} (h : s.events.length < 64) (i : EventId) (d : Nat) (c : Callback) :
    s.addEventRelative i d c =
      { s with
        events := s.events ++ [{ id := i, dueTick := s.currentTick + d, callback := c, seq := s.nextSeq }]
        nextSeq := s.nextSeq + 1 } :=
  if_neg (by simpa [Config.schedCapacity] using h)

/-- Events added one after another, within the capacity, stand after those pending before, in order, and nothing but
the events and their numbering changes. -/
theorem addEvents_of_room (evs : List (EventId × Nat × Nat)) (s : State) (h : s.events.length + evs.length ≤ 64) :
    ∃ es, evs.foldl (fun s ev => s.addEventRelative ev.1 ev.2.1 (.env ev.2.2)) s =
        { s with events := s.events ++ es, nextSeq := s.nextSeq + evs.length } ∧
      es.map (fun e => (e.id, e.dueTick, e.callback)) =
        evs.map (fun ev => (ev.1, s.currentTick + ev.2.1, .env ev.2.2)) := by
  induction evs generalizing s with
  | nil => exact ⟨[], by simp, rfl⟩
  | cons ev evs ih =>
    rw [List.length_cons] at h
    have hadd := State.addEventRelative_of_room (s := s) (by omega) ev.1 ev.2.1 (.env ev.2.2)
    obtain ⟨es, hs, hes⟩ := ih (s.addEventRelative ev.1 ev.2.1 (.env ev.2.2)) (by rw [hadd]; simp; omega)
    rw [hadd] at hs hes
    refine ⟨⟨ev.1, s.currentTick + ev.2.1, .env ev.2.2, s.nextSeq⟩ :: es, ?_, by simp [hes]⟩
    rw [List.foldl_cons, hadd, hs]
    simp
    omega

/-- Settles O11: a launch is State.init with the initial events added one after another. -/
theorem resetValues : Obligations.ResetValues := by
  refine ⟨fun r f p env evs hlen => ?_, rfl⟩
  obtain ⟨es, hs, hes⟩ := addEvents_of_room evs (State.init r f p env) (by simpa [State.init] using hlen)
  have hl : State.launch r f p env evs = _ := hs
  simp only [hl, State.init, Nat.zero_add, List.nil_append, true_and]
  simpa [State.init] using hes

end Sys2Proof.Machine

namespace Sys2Proof.Machine

/-! ### Control state -/

/-- What every instruction but STOP leaves of the control state: the speed mode, the launch parameters and the address
of the fetch stand, and the two tick counters advance alike (rules R134, R146, R310, R1082). -/
structure State.SpeedFrame (s t : State) : Prop where
  doubleSpeed : t.doubleSpeed = s.doubleSpeed
  params : t.params = s.params
  fetchAddr : t.fetchAddr = s.fetchAddr
  forward : s.currentTick ≤ t.currentTick
  together : t.ticksThisCall + s.currentTick = s.ticksThisCall + t.currentTick

/-- What every instruction but HALT, STOP and DI leaves: haltBug and cpuMode stand too, and IME is not cleared (rules
R122, R131). -/
structure State.ControlFrame (s t : State) : Prop extends State.SpeedFrame s t where
  haltBug : t.haltBug = s.haltBug
  cpuMode : t.cpuMode = s.cpuMode
  ime : s.ime = true → t.ime = true

theorem State.SpeedFrame.refl (s : State) : s.SpeedFrame s := ⟨rfl, rfl, rfl, Nat.le_refl _, rfl⟩

theorem State.SpeedFrame.trans {s t u : State} (h : s.SpeedFrame t) (k : t.SpeedFrame u) : s.SpeedFrame u := by
  obtain ⟨hd, hp, hf, hle, hsum⟩ := h
  obtain ⟨kd, kp, kf, kle, ksum⟩ := k
  exact ⟨kd.trans hd, kp.trans hp, kf.trans hf, hle.trans kle, by omega⟩

theorem State.ControlFrame.refl (s : State) : s.ControlFrame s := ⟨.refl s, rfl, rfl, id⟩

theorem State.ControlFrame.trans {s t u : State} (h : s.ControlFrame t) (k : t.ControlFrame u) : s.ControlFrame u :=
  ⟨h.toSpeedFrame.trans k.toSpeedFrame, k.haltBug.trans h.haltBug, k.cpuMode.trans h.cpuMode, k.ime ∘ h.ime⟩

/-- What keeps everything out of the environment's reach, advances both tick counters by n and does not clear IME
keeps the control frame. -/
theorem State.SameCore.controlFrame {s t : State} (h : s.SameCore t) {n : Nat}
    (htick : t.currentTick = s.currentTick + n) (hcall : t.ticksThisCall = s.ticksThisCall + n)
    (hime : s.ime = true → t.ime = true) : s.ControlFrame t :=
  ⟨⟨h.doubleSpeed, h.params, h.fetchAddr, by omega, by omega⟩, h.haltBug, h.cpuMode, hime⟩

theorem State.memRead_ime {s : State} (x : Word) (h : s.ime = true) : (s.memRead x).2.ime = true := by
  cases hb : (s.tick 4).broken with
  | true => rw [State.memRead_of_broken hb]; exact State.tick_ime 4 h
  | false => rw [State.memRead_of_live hb, State.busRead_ime]; exact State.tick_ime 4 h

theorem State.memWrite_ime {s : State} (x : Word) (v : Byte) (h : s.ime = true) : (s.memWrite x v).ime = true := by
  cases hb : (s.tick 4).broken with
  | true => rw [State.memWrite_of_broken hb]; exact State.tick_ime 4 h
  | false => rw [State.memWrite_of_live hb, State.busWrite_ime]; exact State.tick_ime 4 h

theorem State.tick_controlFrame (s : State) (n : Nat) : s.ControlFrame (s.tick n) :=
  (s.tick_sameCore n).controlFrame (s.tick_currentTick n) (s.tick_ticksThisCall n) (State.tick_ime n)

theorem State.memRead_controlFrame (s : State) (x : Word) : s.ControlFrame (s.memRead x).2 :=
  (s.memRead_sameCore x).controlFrame (s.memRead_currentTick x) (s.memRead_ticksThisCall x) (State.memRead_ime x)

theorem State.memWrite_controlFrame (s : State) (x : Word) (v : Byte) : s.ControlFrame (s.memWrite x v) := by
  have h := (s.memWrite_sameCore x v).controlFrame (s.memWrite_currentTick x v) (s.memWrite_ticksThisCall x v)
    (State.memWrite_ime (s := s) x v)
  exact ⟨⟨h.doubleSpeed, h.params, h.fetchAddr, h.forward, h.together⟩, h.haltBug, h.cpuMode, h.ime⟩

theorem State.addEventRelative_controlFrame (s : State) (i : EventId) (d : Nat) (c : Callback) :
    s.ControlFrame (s.addEventRelative i d c) :=
  have hclock := s.addEventRelative_sameClock i d c
  (s.addEventRelative_sameCore i d c).controlFrame (n := 0) hclock.currentTick hclock.ticksThisCall
    (fun h => by simpa using h)

theorem State.rescheduleAll_controlFrame (s : State) (late : Nat) (es : List Event) :
    s.ControlFrame (s.rescheduleAll late es) :=
  have hclock := s.rescheduleAll_sameClock late es
  (s.rescheduleAll_sameCore late es).controlFrame (n := 0) hclock.currentTick hclock.ticksThisCall
    (fun h => by simpa using h)

theorem controlFrame_plain (s : State) : PlainInvariant s.ControlFrame s.ControlFrame where
  final h := h
  tick n h := h.trans (State.tick_controlFrame _ n)
  read x h := h.trans (State.memRead_controlFrame _ x)
  write x v h := h.trans (State.memWrite_controlFrame _ x v)
  regs _ h := h.trans ⟨⟨rfl, rfl, rfl, Nat.le_refl _, rfl⟩, rfl, rfl, id⟩
  pending _ h := h.trans ⟨⟨rfl, rfl, rfl, Nat.le_refl _, rfl⟩, rfl, rfl, id⟩
  imeOn h := h.trans ⟨⟨rfl, rfl, rfl, Nat.le_refl _, rfl⟩, rfl, rfl, fun _ => rfl⟩
  fatal _ h := h.trans ⟨⟨rfl, rfl, rfl, Nat.le_refl _, rfl⟩, rfl, rfl, id⟩
  schedule i d c h := by
    have hadd := h.trans (State.addEventRelative_controlFrame _ i d c)
    cases hb : (State.addEventRelative _ i d c).broken with
    | true => exact .inl ⟨hb, hadd⟩
    | false => exact .inr ⟨hb, hadd⟩

theorem speedFrame_op (s : State) : OpInvariant s.SpeedFrame s.SpeedFrame where
  final h := h
  tick n h := h.trans (State.tick_controlFrame _ n).toSpeedFrame
  read x h := h.trans (State.memRead_controlFrame _ x).toSpeedFrame
  write x v h := h.trans (State.memWrite_controlFrame _ x v).toSpeedFrame
  regs _ h := h.trans ⟨rfl, rfl, rfl, Nat.le_refl _, rfl⟩
  ime _ h := h.trans ⟨rfl, rfl, rfl, Nat.le_refl _, rfl⟩
  clear _ _ h := h.trans ⟨rfl, rfl, rfl, Nat.le_refl _, rfl⟩

theorem exec_controlFrame {i : Instr} {s t : State} (hi : ¬(i = .halt ∨ i = .di ∨ ∃ n8, i = .stop n8))
    (h : exec i s = .next t) : s.ControlFrame t := by
  have hp := controlFrame_plain s
  refine hp.ofCarries (Result.ends_iff.1 (hp.exec (.refl s) i (fun _ _ _ hm => ?_) (absurd · hi)) t h)
  exact hm.trans ⟨⟨rfl, rfl, rfl, Nat.le_refl _, rfl⟩, rfl, rfl, id⟩

theorem haltCpu_speedFrame {s t : State} (h : haltCpu s = .next t) : s.SpeedFrame t := by
  have ho := speedFrame_op s
  exact ho.ofCarries (Result.ends_iff.1 (ho.haltCpu
    (fun _ hm => hm.trans ⟨rfl, rfl, rfl, Nat.le_refl _, rfl⟩)
    (fun _ hm => hm.trans ⟨rfl, rfl, rfl, Nat.le_refl _, rfl⟩)
    (fun hm => hm.trans ⟨rfl, rfl, rfl, Nat.le_refl _, rfl⟩) (.refl s)) t h)

/-- Settles O45: HALT, DI and STOP each by what they do, every other instruction by the control frame. -/
theorem controlStateFrame : Obligations.ControlStateFrame := by
  intro i s t h
  by_cases hi : i = .halt ∨ i = .di ∨ ∃ n8, i = .stop n8
  · obtain rfl | rfl | ⟨n8, rfl⟩ := hi
    · obtain ⟨hd, hp, hf, hle, hsum⟩ := haltCpu_speedFrame h
      exact ⟨fun _ => hd, absurd rfl, fun _ => absurd rfl, hp, hf, hle, hsum⟩
    · cases h
      exact ⟨fun _ => rfl, fun _ => ⟨rfl, rfl⟩, absurd rfl, rfl, rfl, Nat.le_refl _, rfl⟩
    · obtain ⟨es, ⟨-, rfl⟩ | ⟨-, rfl⟩⟩ := stopCpu_next h
      all_goals
        obtain ⟨⟨-, hp, hf, hle, hsum⟩, hb, hm, hime⟩ := s.rescheduleAll_controlFrame 0 es
        exact ⟨fun hne => absurd rfl (hne n8), fun _ => ⟨hb, hm⟩, fun _ _ => hime, hp, hf, hle, hsum⟩
  · obtain ⟨⟨hd, hp, hf, hle, hsum⟩, hb, hm, hime⟩ := exec_controlFrame hi h
    exact ⟨fun _ => hd, fun _ => ⟨hb, hm⟩, fun _ _ => hime, hp, hf, hle, hsum⟩

end Sys2Proof.Machine

namespace Sys2Proof.Forms

open Sys2Proof.Machine

/-! ### The flags of the opcode table -/

/-- Each flag for which a row has '-' is the same in f and g (rule R114). -/
structure FlagRow.Kept (r : FlagRow) (f g : Flags) : Prop where
  z : r.z = .keep → g.z = f.z
  n : r.n = .keep → g.n = f.n
  h : r.h = .keep → g.h = f.h
  c : r.c = .keep → g.c = f.c

theorem FlagRow.Kept.refl (r : FlagRow) (f : Flags) : r.Kept f f :=
  ⟨fun _ => rfl, fun _ => rfl, fun _ => rfl, fun _ => rfl⟩

/-- A row without '-' for any flag. -/
def FlagRow.writesAll (r : FlagRow) : Bool := r.z != .keep && r.n != .keep && r.h != .keep && r.c != .keep

theorem FlagRow.Kept.of_writesAll {r : FlagRow} (h : r.writesAll = true) (f g : Flags) : r.Kept f g := by
  simp only [FlagRow.writesAll, Bool.and_eq_true, bne_iff_ne, ne_eq] at h
  obtain ⟨⟨⟨hz, hn⟩, hh⟩, hc⟩ := h
  exact ⟨(absurd · hz), (absurd · hn), (absurd · hh), (absurd · hc)⟩

/-- The flags of an instruction's row in the opcode table. -/
def flagRow (i : Instr) : FlagRow :=
  match encode i with
  | [] => keepAll
  | b0 :: bs => (tableRow b0 (bs.headD 0x00#8)).flags

theorem flagRow_of_encode {i : Instr} {b0 : Byte} {bs : List Byte} (h : encode i = b0 :: bs) :
    flagRow i = (tableRow b0 (bs.headD 0x00#8)).flags := by
  simp [flagRow, h]

/-- The instructions whose row writes some flags and has '-' for others, PREFIX CB apart. -/
def mixedForms : List Instr :=
  incForms.map (·.1) ++ decForms.map (·.1) ++ addPairForms.map (·.1) ++ bitForms.map (·.1) ++
    [.incAtHl, .decAtHl, .daa, .cpl, .scf, .ccf]

/-- The three kinds of rows: no flag is written, every flag is, or some are. -/
theorem flagRow_kinds {i : Instr} (hi : ∀ op2, i ≠ .prefixCb op2) :
    (!writesFlags i || (flagRow i).writesAll || mixedForms.contains i) = true := by
  cases i
  case prefixCb op2 => exact absurd rfl (hi op2)
  all_goals rfl

theorem incForms_flagRow : ∀ f ∈ incForms, flagRow f.1 = incremented := by decide
theorem decForms_flagRow : ∀ f ∈ decForms, flagRow f.1 = decremented := by decide
theorem addPairForms_flagRow : ∀ f ∈ addPairForms, flagRow f.1 = addedPair := by decide
theorem bitForms_flagRow : ∀ f ∈ bitForms, flagRow f.1 = bitTested := by decide

theorem incForms_exec : ∀ f ∈ incForms, exec f.1 = incReg f.2 := by
  simp only [incForms, List.forall_mem_cons, List.not_mem_nil, false_implies, implies_true, and_true]
  and_intros <;> rfl

theorem decForms_exec : ∀ f ∈ decForms, exec f.1 = decReg f.2 := by
  simp only [decForms, List.forall_mem_cons, List.not_mem_nil, false_implies, implies_true, and_true]
  and_intros <;> rfl

theorem addPairForms_exec : ∀ f ∈ addPairForms, exec f.1 = addHlPair f.2 := by
  simp only [addPairForms, List.forall_mem_cons, List.not_mem_nil, false_implies, implies_true, and_true]
  and_intros <;> rfl

theorem bitForms_exec : ∀ f ∈ bitForms, exec f.1 = bitOperand f.2.1 f.2.2 := by
  simp only [bitForms, List.forall_mem_cons, List.not_mem_nil, false_implies, implies_true, and_true]
  and_intros <;> rfl

end Sys2Proof.Forms

namespace Sys2Proof.Machine

open Sys2Proof.Forms

/-! ### What the instructions do to the flags -/

/-- No bus access, tick or register write changes the flags, so every property of them is kept (rule R114). -/
theorem flags_op (P : Flags → Prop) : OpInvariant (fun s => P s.flags) (fun s => P s.flags) where
  final h := h
  tick n h := (State.tick_sameCore _ n).flags.symm ▸ h
  read x h := (State.memRead_flags _ x).symm ▸ h
  write x v h := (State.memWrite_flags _ x v).symm ▸ h
  regs _ h := h
  ime _ h := h
  clear _ _ h := h

theorem flags_plain (P : Flags → Prop) : PlainInvariant (fun s => P s.flags) (fun s => P s.flags) where
  toAccessInvariant := (flags_op P).toAccessInvariant
  pending _ h := h
  imeOn h := h
  fatal _ h := h
  schedule i d c h := (flags_op P).carries ((State.addEventRelative_sameCore _ i d c).flags.symm ▸ h)

/-- If an answer is a next state, its flags have the property. -/
abbrev Result.EndsFlags (P : Flags → Prop) (r : Result) : Prop :=
  r.Ends (Carries (fun s => P s.flags) (fun s => P s.flags))

theorem Result.EndsFlags.of_next {P : Flags → Prop} {r : Result} (h : r.EndsFlags P) {t : State} (ht : r = .next t) :
    P t.flags :=
  (flags_op P).ofCarries (Result.ends_iff.1 h t ht)

theorem haltCpu_endsFlags {P : Flags → Prop} {s : State} (h : P s.flags) : (haltCpu s).EndsFlags P :=
  (flags_op P).haltCpu (fun _ h => h) (fun _ h => h) (fun h => h) h

theorem stopCpu_endsFlags {P : Flags → Prop} {s : State} (h : P s.flags) : (stopCpu s).EndsFlags P := by
  refine Result.ends_iff.2 (fun t ht => (flags_op P).carries ?_)
  obtain ⟨es, ⟨-, rfl⟩ | ⟨-, rfl⟩⟩ := stopCpu_next ht <;> exact (State.rescheduleAll_sameCore s 0 es).flags.symm ▸ h

/-- HALT, DI and STOP write no flag; every other instruction that has no flags to write keeps a property of them. -/
theorem exec_endsFlags {P : Flags → Prop} {i : Instr} {s : State} (h : P s.flags)
    (hi : writesFlags i = true → ∀ f, P f) : Result.EndsFlags P (exec i s) :=
  (flags_plain P).exec h i (fun hw _ f _ => hi hw f) (fun hs => by
    obtain rfl | rfl | ⟨n8, rfl⟩ := hs
    · exact haltCpu_endsFlags h
    · exact (flags_op P).carries h
    · exact stopCpu_endsFlags h)

/-! ### The rows that write some flags and keep others -/

section
variable {f : Flags} {s : State}

theorem inc8_kept (v : Byte) {g : Flags} (h : incremented.Kept f g) : incremented.Kept f (inc8 v g).flags :=
  ⟨nofun, nofun, nofun, h.c⟩

theorem dec8_kept (v : Byte) {g : Flags} (h : decremented.Kept f g) : decremented.Kept f (dec8 v g).flags :=
  ⟨nofun, nofun, nofun, h.c⟩

theorem bitFlags_kept (b : Nat) (v : Byte) {g : Flags} (h : bitTested.Kept f g) :
    bitTested.Kept f (bitFlags b v g) :=
  ⟨nofun, nofun, nofun, h.c⟩

theorem incHl_kept (h : incremented.Kept f s.flags) : (incHl s).EndsFlags (incremented.Kept f) :=
  have k := flags_op (incremented.Kept f)
  k.readThen h _ (fun v _ ht => k.writeThen ht _ _ (fun _ _ => k.carries (inc8_kept v ht)))

theorem decHl_kept (h : decremented.Kept f s.flags) : (decHl s).EndsFlags (decremented.Kept f) :=
  have k := flags_op (decremented.Kept f)
  k.readThen h _ (fun v _ ht => k.writeThen ht _ _ (fun _ _ => k.carries (dec8_kept v ht)))

theorem bitOperand_kept (b : Nat) (z : CbOperand) (h : bitTested.Kept f s.flags) :
    (bitOperand b z s).EndsFlags (bitTested.Kept f) :=
  have k := flags_op (bitTested.Kept f)
  k.readOperandThen h z (fun v _ ht => k.carries (bitFlags_kept b v ht))

end

theorem exec_mixed_kept {i : Instr} (hi : i ∈ mixedForms) (s : State) :
    Result.EndsFlags ((flagRow i).Kept s.flags) (exec i s) := by
  simp only [mixedForms, List.mem_append, List.mem_map, List.mem_cons, List.not_mem_nil, or_false] at hi
  obtain (((⟨x, hx, rfl⟩ | ⟨x, hx, rfl⟩) | ⟨x, hx, rfl⟩) | ⟨x, hx, rfl⟩) | rfl | rfl | rfl | rfl | rfl | rfl := hi
  · rw [incForms_exec x hx, incForms_flagRow x hx]
    exact (flags_op _).carries (inc8_kept _ (.refl _ s.flags))
  · rw [decForms_exec x hx, decForms_flagRow x hx]
    exact (flags_op _).carries (dec8_kept _ (.refl _ s.flags))
  · rw [addPairForms_exec x hx, addPairForms_flagRow x hx]
    exact (flags_op _).carries ⟨fun _ => rfl, nofun, nofun, nofun⟩
  · rw [bitForms_exec x hx, bitForms_flagRow x hx]
    exact bitOperand_kept _ _ (.refl _ s.flags)
  · exact incHl_kept (.refl _ s.flags)
  · exact decHl_kept (.refl _ s.flags)
  · exact (flags_op (adjusted.Kept s.flags)).carries ⟨nofun, fun _ => rfl, nofun, nofun⟩
  · exact (flags_op (complemented.Kept s.flags)).carries ⟨fun _ => rfl, nofun, nofun, fun _ => rfl⟩
  · exact (flags_op (carrySet.Kept s.flags)).carries ⟨fun _ => rfl, nofun, nofun, nofun⟩
  · exact (flags_op (carryFlipped.Kept s.flags)).carries ⟨fun _ => rfl, nofun, nofun, nofun⟩

/-- PREFIX CB keeps what the row of the byte after it keeps: BIT all but Z, N and H, a rotate or shift nothing, RES and
SET all four (rules R322, R341). -/
theorem runSecondary_kept (op2 : Byte) (s : State) :
    (runSecondary op2 s).EndsFlags ((secondaryTable op2).flags.Kept s.flags) := by
  by_cases hbit : op2.toNat / 64 = 1
  · have hrow : (secondaryTable op2).flags = bitTested := by simp [secondaryTable, hbit]
    have hrun : runSecondary op2 s = bitOperand (op2.toNat / 8 % 8) (cbOperand (op2.toNat % 8)) s := by
      simp [runSecondary, hbit]
    rw [hrow, hrun]
    exact bitOperand_kept _ _ (.refl _ s.flags)
  · refine (flags_plain _).runSecondary op2 (fun hw s f _ => FlagRow.Kept.of_writesAll ?_ _ _)
      (FlagRow.Kept.refl _ s.flags)
    have hrot : op2.toNat / 64 = 0 := by
      simp only [secondaryWritesFlags, decide_eq_true_eq] at hw
      omega
    simp only [secondaryTable, hrot]
    split <;> rfl

/-- Every instruction keeps the flags for which its row has '-'. -/
theorem exec_kept (i : Instr) (s : State) : Result.EndsFlags ((flagRow i).Kept s.flags) (exec i s) := by
  by_cases hcb : ∃ op2, i = .prefixCb op2
  · obtain ⟨op2, rfl⟩ := hcb
    exact runSecondary_kept op2 s
  · by_cases hm : i ∈ mixedForms
    · exact exec_mixed_kept hm s
    · refine exec_endsFlags (.refl _ s.flags) (fun hw => FlagRow.Kept.of_writesAll ?_ _)
      have hkinds := flagRow_kinds (fun op2 h => hcb ⟨op2, h⟩)
      simpa [hw, hm] using hkinds

/-- Settles O42: the rows by `exec_kept`, and dispatch keeps every property of the flags. -/
theorem flagsChangeOnlyWhereTheTableSays : Obligations.FlagsChangeOnlyWhereTheTableSays := by
  refine ⟨fun i b0 bs s t hb ht => ?_, fun fromHalt s t ht => ?_⟩
  · obtain ⟨hz, hn, hh, hc⟩ := Result.EndsFlags.of_next (exec_kept i s) ht
    rw [flagRow_of_encode hb] at hz hn hh hc
    exact ⟨hz, hn, hh, hc⟩
  · have hd : (dispatchInterrupt fromHalt s).EndsFlags (· = s.flags) :=
      (flags_op (· = s.flags)).dispatchInterrupt rfl fromHalt
    exact hd.of_next ht

end Sys2Proof.Machine

/-! ## Memory, the bus and the stack: canonical memories, the contract of an access, stores, pushes and pops -/

namespace Sys2Proof.Machine

/-! ### Canonical memories -/

/-- The entries of a canonical memory are the addresses that read as something else than an unlisted one, each with
the byte it reads as. -/
theorem Memory.mem_iff_read {m : Memory} (h : Memory.wf m) {x : Nat} {v : Byte} :
    (x, v) ∈ m ↔ x < 65536 ∧ m.read x = v ∧ v ≠ Config.unlistedByte := by
  obtain ⟨hp, hv⟩ := h
  induction m with
  | nil => simp +contextual [Memory.read]
  | cons c m ih =>
    obtain ⟨k, w⟩ := c
    obtain ⟨hlt, hp⟩ := List.pairwise_cons.1 hp
    obtain ⟨⟨hk, hw⟩, hv⟩ := List.forall_mem_cons.1 hv
    by_cases hx : x = k
    · subst hx
      have hnot : (x, v) ∉ m := fun hm => Nat.lt_irrefl x (hlt (x, v) hm)
      have hread : Memory.read ((x, w) :: m) x = w := if_pos rfl
      rw [hread, List.mem_cons, or_iff_left hnot]
      exact ⟨fun e => by cases e; exact ⟨hk, rfl, hw⟩, fun ⟨_, e, _⟩ => by rw [e]⟩
    · simpa [Memory.read, hx] using ih hp hv

/-- The addresses of a canonical memory rise strictly, so what it reads as determines the list. -/
theorem Memory.ext_of_read {m m' : Memory} (h : Memory.wf m) (h' : Memory.wf m')
    (hread : ∀ x < 65536, m.read x = m'.read x) : m = m' := by
  have : Std.Asymm (fun x y : Host.Cell => x.1 < y.1) := ⟨fun _ _ => Nat.lt_asymm⟩
  refine h.1.eq_of_mem_iff h'.1 (fun {c} => ?_)
  rw [Memory.mem_iff_read h, Memory.mem_iff_read h']
  exact and_congr_right (fun hx => by rw [hread c.1 hx])

theorem Memory.read_write {m : Memory} (h : Memory.wf m) (x y : Nat) (v : Byte) :
    (m.write x v).read y = if y = x then v else m.read y := by
  split
  · subst_vars
    exact m.read_write_same _ v h
  · exact m.read_write_ne v ‹_›

theorem Memory.write_read_self {m : Memory} (h : Memory.wf m) {x : Nat} (hx : x < 65536) :
    m.write x (m.read x) = m := by
  refine Memory.ext_of_read (Memory.wf_write _ hx h) h (fun y _ => ?_)
  rw [Memory.read_write h]
  split
  · subst_vars
    rfl
  · rfl

/-- Settles O49: what a canonical memory reads as determines it. -/
theorem memoryIsCanonical : Obligations.MemoryIsCanonical :=
  ⟨fun _ _ h h' => Memory.ext_of_read h h',
   fun _ x y v h hx => ⟨Memory.wf_write v hx h, Memory.read_write h x y v, Memory.write_read_self h hx⟩⟩

/-! ### The contract of a bus read -/

theorem State.busRead_if (s : State) :
    s.busRead Config.ifAddr = (s.ifr, s.observe (.read s.currentTick Config.ifAddr s.ifr)) := rfl

theorem State.busRead_ie (s : State) :
    s.busRead Config.ieAddr = (s.ie, s.observe (.read s.currentTick Config.ieAddr s.ie)) := rfl

theorem State.busRead_env (s : State) {x : Word} (hif : x ≠ Config.ifAddr) (hie : x ≠ Config.ieAddr) :
    s.busRead x =
      ((s.envRead x).1, (s.envRead x).2.observe (.read s.currentTick x (s.envRead x).1)) := by
  simp [State.busRead, hif, hie]

theorem State.act_reads (s : State) (x : EnvAct) : (s.act x).env.reads = s.env.reads := by
  cases x with
  | add i d t => exact congrArg Environment.reads (s.addEventRelative_env i d (.env t))
  | poke a v => simp only [State.act]; split <;> rfl
  | _ => rfl

/-- No act of the environment touches the answers it has lined up. -/
theorem State.applyActs_reads (s : State) (xs : List EnvAct) : (s.applyActs xs).env.reads = s.env.reads :=
  State.applyActs_induction (R := fun s t => t.env.reads = s.env.reads) (fun _ => rfl) (fun h k => k.trans h)
    State.act_reads xs s

/-- A lined-up answer gives its byte, or the byte of the environment's memory where it names none, and is used up. -/
theorem State.envRead_lined {s : State} {r : ReadMove} {rest : List ReadMove} (h : s.env.reads = r :: rest) (x : Word) :
    (s.envRead x).1 = r.answer.getD (s.env.mem.read x.toNat) ∧ (s.envRead x).2.env.reads = rest := by
  simp only [State.envRead, h]
  exact ⟨trivial, State.applyActs_reads _ _⟩

/-- Settles O47: the four ticks by `tick`'s laws, then the read by the owner of its address. -/
theorem busReadContract : Obligations.BusReadContract := by
  intro s x t r
  obtain ⟨hevents, hseq, hbroken, hreason⟩ := s.memRead_sameSchedule x
  refine ⟨fun hb => ?_, fun hb hx => ?_, fun hb hx => ?_, fun hb hif hie => ?_, s.memRead_sameCore x,
    s.memRead_currentTick x, s.memRead_ticksThisCall x, hevents, hseq, hbroken, hreason, State.memRead_ime x⟩
  · exact congrArg Prod.snd (State.memRead_of_broken hb x)
  · subst hx
    exact (State.memRead_of_live hb _).trans t.busRead_if
  · subst hx
    exact (State.memRead_of_live hb _).trans t.busRead_ie
  · have hr : r = _ := (State.memRead_of_live hb x).trans (t.busRead_env hif hie)
    rw [hr]
    exact ⟨fun hnone => congrArg Prod.fst (State.envRead_plain hnone x),
      fun answer acts rest hlined => State.envRead_lined hlined x⟩

/-! ### The contract of a bus write -/

/-- Settles O48: the four ticks by `tick`'s laws, then the write by the owner of its address. -/
theorem busWriteContract : Obligations.BusWriteContract := by
  intro s x v t u o
  refine ⟨fun hb => State.memWrite_of_broken hb x v, fun hb hx => ?_, fun hb hx => ?_, fun hx => ?_,
    fun hb hif hie hnone => ?_, s.memWrite_currentTick x v, s.memWrite_ticksThisCall x v⟩
  · subst hx
    exact State.memWrite_of_live hb _ v
  · subst hx
    exact State.memWrite_of_live hb _ v
  · have h := s.memWrite_sameCore x v
    rwa [if_neg (fun hc => hx hc.1)] at h
  · have hu : u = (t.observe o).envWrite x v := by
      rw [show u = t.busWrite x v from State.memWrite_of_live hb x v]
      exact (if_neg hif).trans (if_neg hie)
    exact hu.trans (State.envWrite_plain (s := t.observe o) hnone x v)

end Sys2Proof.Machine

namespace Sys2Proof.Machine

open Sys2Proof.Forms

/-! ### The stack -/

theorem pairWord_eq_stackPair (s : State) (p : StackPair) : pairWord s p = s.stackPair p := by
  cases p
  case af => rw [pairWord, State.stackPair, ← Flags.toNat_pack, BitVec.ofNat_toNat, BitVec.setWidth_eq]
  all_goals rfl

theorem State.setStackPair_ofBytes (s : State) (hi lo : Byte) (p : StackPair) :
    s.setStackPair (Word.ofBytes hi lo) p = writePair s hi lo p := by
  cases p <;>
    simp [State.setStackPair, writePair, State.setR16, State.setR8, State.setFlags, Registers.set16, Registers.set8,
      Flags.unpack]

@[simp] theorem pushFirst_regs (s : State) (w : Word) :
    (pushFirst s w).regs = { s.regs with sp := s.regs.sp - 1 } := by
  simp [pushFirst]

@[simp] theorem pushBoth_regs (s : State) (w : Word) :
    (pushBoth s w).regs = { s.regs with sp := s.regs.sp - 2 } := by
  simp [pushBoth]

@[simp] theorem pushBoth_flags (s : State) (w : Word) : (pushBoth s w).flags = s.flags := by
  simp [pushBoth, pushFirst]

@[simp] theorem pushBoth_pendingTicks (s : State) (w : Word) : (pushBoth s w).pendingTicks = s.pendingTicks := by
  simp [pushBoth, pushFirst]

@[simp] theorem popFirst_regs (s : State) : (popFirst s).2.regs = s.regs := by
  simp [popFirst]

@[simp] theorem popSecond_regs (s : State) : (popSecond s).2.regs = { s.regs with sp := s.regs.sp + 1 } := by
  simp [popSecond]

@[simp] theorem popDone_regs (s : State) : (popDone s).regs = { s.regs with sp := s.regs.sp + 2 } := by
  simp [popDone]

@[simp] theorem popDone_flags (s : State) : (popDone s).flags = s.flags := by
  simp [popDone, popSecond, popFirst]

@[simp] theorem popDone_pendingTicks (s : State) : (popDone s).pendingTicks = s.pendingTicks := by
  simp [popDone, popSecond, popFirst]

/-- A push whose first write raises no fatal condition goes on with its second write (rule R232). -/
theorem push16Then_of_first {s : State} {w : Word} (h : (pushFirst s w).broken = false) (k : State → Result) :
    push16Then w k s = writeThen (s.regs.sp - 2) w.lo k ((pushFirst s w).setSp (s.regs.sp - 2)) := by
  have hsp : (pushFirst s w).regs.sp - 1 = s.regs.sp - 2 := by
    rw [pushFirst_regs]
    bv_omega
  have hfirst : push16Then w k s = push8Then w.lo k (pushFirst s w) := writeThen_live h _
  rw [hfirst, push8Then, hsp]
  rfl

theorem push16Then_live {s : State} {w : Word} (h : (pushFirst s w).broken = false)
    (h' : (pushBoth s w).broken = false) (k : State → Result) : push16Then w k s = k (pushBoth s w) :=
  (push16Then_of_first h k).trans (writeThen_live h' k)

/-- A pop whose reads raise no fatal condition goes on with its word (rule R233). -/
theorem pop16Then_live {s : State} (h : (popFirst s).2.broken = false) (h' : (popSecond s).2.broken = false)
    (k : Word → State → Result) : pop16Then k s = k (popWord s) (popDone s) := by
  have hsp : (popSecond s).2.regs.sp + 1 = s.regs.sp + 2 := by
    rw [popSecond_regs]
    bv_omega
  calc pop16Then k s
      = pop8Then (fun hi => k (Word.ofBytes hi (popFirst s).1))
          ((popFirst s).2.setSp ((popFirst s).2.regs.sp + 1)) := by
        rw [pop16Then, pop8Then, readThen_live h]
        rfl
    _ = pop8Then (fun hi => k (Word.ofBytes hi (popFirst s).1)) ((popFirst s).2.setSp (s.regs.sp + 1)) := by
        rw [popFirst_regs]
    _ = k (popWord s) ((popSecond s).2.setSp ((popSecond s).2.regs.sp + 1)) := readThen_live h' _
    _ = k (popWord s) (popDone s) := by rw [hsp, popDone]

/-! ### The forms and their meanings -/

theorem pairImmForms_exec (n16 : Word) : ∀ f ∈ pairImmForms n16, exec f.1 = loadPair f.2 n16 := by
  simp only [pairImmForms, List.forall_mem_cons, List.not_mem_nil, false_implies, implies_true, and_true]
  and_intros <;> rfl

theorem pushForms_exec : ∀ f ∈ pushForms, exec f.1 = pushPair f.2 := by
  simp only [pushForms, List.forall_mem_cons, List.not_mem_nil, false_implies, implies_true, and_true]
  and_intros <;> rfl

theorem popForms_exec : ∀ f ∈ popForms, exec f.1 = popPair f.2 := by
  simp only [popForms, List.forall_mem_cons, List.not_mem_nil, false_implies, implies_true, and_true]
  and_intros <;> rfl

theorem callForms_exec (n16 : Word) (s : State) :
    ∀ f ∈ callForms n16 s, exec f.1 s = if f.2.2 then call f.2.1 s else .next s := by
  simp only [callForms, List.forall_mem_cons, List.not_mem_nil, false_implies, implies_true, and_true]
  and_intros <;> rfl

theorem retForms_exec (s : State) : ∀ f ∈ retForms s,
    let u : State := { s with pendingTicks := s.pendingTicks + 4 * f.2.1 }
    exec f.1 s = if f.2.2 then ret u else .next u := by
  simp only [retForms, List.forall_mem_cons, List.not_mem_nil, false_implies, implies_true, and_true]
  and_intros <;> rfl

theorem highPage_eq_add (n : Byte) : highPage n = 0xFF00#16 + n.zeroExtend 16 := by
  apply BitVec.eq_of_toNat_eq
  rw [highPage, Word.toNat_ofBytes]
  have := n.isLt
  simp
  omega

theorem storeForms_exec (n8 : Byte) (n16 : Word) (s : State) :
    ∀ f ∈ storeForms n8 n16 s, exec f.1 s = .next (s.memWrite f.2.1 f.2.2) := by
  simp only [storeForms, ← highPage_eq_add, ← writeThen_next, List.forall_mem_cons, List.not_mem_nil, false_implies,
    implies_true, and_true]
  and_intros <;> rfl

/-! ### 16-bit loads, PUSH and POP -/

/-- Settles O24: LD [n16],SP is two writes, the other forms are register updates. -/
theorem wordLoadResults : Obligations.WordLoadResults := by
  intro n16 s
  refine ⟨fun f hf => ?_, rfl, fun h => ?_⟩
  · rw [pairImmForms_exec n16 f hf]
    rfl
  · calc exec (.ldAtN16Sp n16) s
        = writeThen (n16 + 1) s.regs.sp.hi .next (s.memWrite n16 s.regs.sp.lo) := writeThen_live h _
      _ = _ := writeThen_next _ _ _

/-- Settles O25: a push from the state with the internal cycle accrued. -/
theorem pushResults : Obligations.PushResults := by
  intro s f hf u h
  refine ⟨?_, pushBoth_regs u _, pushBoth_flags u _⟩
  rw [pairWord_eq_stackPair] at h ⊢
  calc exec f.1 s
      = push16Then (s.stackPair f.2) .next u := congrFun (pushForms_exec f hf) s
    _ = .next (pushBoth u (s.stackPair f.2)) := (push16Then_of_first h _).trans (writeThen_next _ _ _)

/-- Settles O26: a pop, whose two bytes are written to the pair. -/
theorem popResults : Obligations.PopResults := by
  intro s f hf h h'
  refine ⟨?_, popDone_regs s, popDone_flags s⟩
  calc exec f.1 s
      = popPair f.2 s := congrFun (popForms_exec f hf) s
    _ = .next ((popDone s).setStackPair (popWord s) f.2) := pop16Then_live h h' _
    _ = _ := congrArg _ (State.setStackPair_ofBytes _ _ _ _)

/-! ### Calls, restarts and returns -/

/-- A call whose writes raise no fatal condition answers the state after the push, with pc at the target. -/
theorem call_live {s : State} (n16 : Word) (h : (pushFirst s.internal s.regs.pc).broken = false)
    (h' : (pushBoth s.internal s.regs.pc).broken = false) :
    call n16 s = .next { pushBoth s.internal s.regs.pc with
      regs := { s.regs with sp := s.regs.sp - 2, pc := n16 }, flags := s.flags,
      pendingTicks := s.pendingTicks + 4 } := by
  rw [call, push16Then_live h h']
  simp [State.setPc]

/-- Settles O29: a call that is taken is a push and a jump. -/
theorem callAndRestartResults : Obligations.CallAndRestartResults := by
  intro n16 s f hf
  constructor
  · intro hno
    simpa [hno] using callForms_exec n16 s f hf
  · intro hyes u h h'
    calc exec f.1 s
        = call f.2.1 s := by simpa [hyes] using callForms_exec n16 s f hf
      _ = _ := call_live f.2.1 h h'

/-- The state after a pop whose word goes to pc, with the internal cycle of a return (rules R722, R724). -/
theorem popDone_return (s : State) :
    ((popDone s).setPc (popWord s)).internal = { popDone s with
      regs := { s.regs with sp := s.regs.sp + 2, pc := popWord s }, flags := s.flags,
      pendingTicks := s.pendingTicks + 4 } := by
  simp [State.setPc, State.internal, Config.ticksPerInternal]

theorem ret_live {s : State} (h : (popFirst s).2.broken = false) (h' : (popSecond s).2.broken = false) :
    ret s = .next ((popDone s).setPc (popWord s)).internal :=
  pop16Then_live h h' _

theorem returnFromInterrupt_live {s : State} (h : (popFirst s).2.broken = false)
    (h' : (popSecond s).2.broken = false) :
    returnFromInterrupt s = .next { ((popDone s).setPc (popWord s)).internal with ime := true } :=
  pop16Then_live h h' _

/-- Settles O30: a return that is taken is a pop and a jump. -/
theorem returnResults : Obligations.ReturnResults := by
  intro s
  constructor
  · intro f hf u
    have hexec : exec f.1 s = if f.2.2 then ret u else .next u := retForms_exec s f hf
    constructor
    · intro hno
      simpa [hno] using hexec
    · intro hyes h h'
      rw [hexec, if_pos hyes, ret_live h h', popDone_return]
  · intro h h'
    calc exec .reti s
        = .next { ((popDone s).setPc (popWord s)).internal with ime := true } := returnFromInterrupt_live h h'
      _ = _ := by rw [popDone_return]

/-! ### Stored bytes in quiet time -/

/-- What the bus shows at an address after a byte is stored there: at IF, bits 5..7 read as 1 (rule R241). -/
def shownByte (x : Word) (v : Byte) : Byte := if x = Config.ifAddr then v ||| Config.ifHighBits else v

section
variable {n : Nat} {s : State}

theorem State.Quiet.setSp (h : s.Quiet n) (v : Word) : (s.setSp v).Quiet n :=
  ⟨h.live, h.noReads, h.noWrites, h.notDue⟩

theorem State.Quiet.internal (h : s.Quiet n) : s.internal.Quiet n := ⟨h.live, h.noReads, h.noWrites, h.notDue⟩

/-- A write in quiet time keeps the canonical form of the memory. -/
theorem State.Quiet.memory_memWrite (h : s.Quiet (n + 4)) (hm : Memory.wf s.env.mem) (x : Word) (v : Byte) :
    Memory.wf (s.memWrite x v).env.mem := by
  rw [h.memWrite x v]
  simp only
  split
  · exact hm
  · exact Memory.wf_write v x.isLt hm

/-- Both bytes of a push show on the bus, and it raises no fatal condition. -/
theorem State.Quiet.peek_pushBoth (h : s.Quiet 8) (hm : Memory.wf s.env.mem) (w : Word) :
    (pushFirst s w).broken = false ∧ (pushBoth s w).broken = false ∧
    (pushBoth s w).peek (s.regs.sp - 1) = shownByte (s.regs.sp - 1) w.hi ∧
    (pushBoth s w).peek (s.regs.sp - 2) = shownByte (s.regs.sp - 2) w.lo := by
  have hne : s.regs.sp - 1 ≠ s.regs.sp - 2 := by bv_omega
  have hs : (s.setSp (s.regs.sp - 1)).Quiet (4 + 4) := h.setSp _
  have hq : ((pushFirst s w).setSp (s.regs.sp - 2)).Quiet (0 + 4) := (hs.after_memWrite _ _).setSp _
  refine ⟨hq.live, (hq.after_memWrite _ _).live, ?_, ?_⟩
  · exact (hq.peek_memWrite_ne _ hne).trans (hs.peek_memWrite_same hm _ _)
  · exact hq.peek_memWrite_same (hs.memory_memWrite hm _ _) _ _

/-- Both bytes of LD [n16],SP show on the bus. -/
theorem State.Quiet.peek_storeSp (h : s.Quiet 8) (hm : Memory.wf s.env.mem) (n16 : Word) :
    ∃ t, storeSp n16 s = .next t ∧ t.peek n16 = shownByte n16 s.regs.sp.lo ∧
      t.peek (n16 + 1) = shownByte (n16 + 1) s.regs.sp.hi := by
  have hne : n16 ≠ n16 + 1 := by bv_omega
  have hs : s.Quiet (4 + 4) := h
  have hq : (s.memWrite n16 s.regs.sp.lo).Quiet (0 + 4) := hs.after_memWrite _ _
  refine ⟨_, (writeThen_quiet hs _ _ _).trans (writeThen_next _ _ _), ?_, ?_⟩
  · exact (hq.peek_memWrite_ne _ hne).trans (hs.peek_memWrite_same hm _ _)
  · exact hq.peek_memWrite_same (hs.memory_memWrite hm _ _) _ _

end

/-- Settles O44: one write, or two at different addresses. -/
theorem storedBytesShowOnTheBus : Obligations.StoredBytesShowOnTheBus := by
  intro n8 n16 s h hm shown
  refine ⟨fun f hf => ?_, h.peek_storeSp hm n16, fun f hf => ?_, fun f hf hyes => ?_⟩
  · exact ⟨_, storeForms_exec n8 n16 s f hf, (h.mono (by decide) : s.Quiet (0 + 4)).peek_memWrite_same hm _ _⟩
  · obtain ⟨hlive, -, hpeek⟩ := h.internal.peek_pushBoth hm (pairWord s f.2)
    exact ⟨_, (pushResults s f hf hlive).1, hpeek⟩
  · obtain ⟨hlive, hlive', hpeek⟩ := h.internal.peek_pushBoth hm s.regs.pc
    exact ⟨_, (callAndRestartResults n16 s f hf).2 hyes hlive hlive', hpeek⟩

end Sys2Proof.Machine

/-! ## Encoding: the decoder and the encoder, the fetch, the end of a step, the opcode table -/

namespace Sys2Proof

/-! ### The length of an instruction -/

theorem instrLength_cases (b0 : Byte) : instrLength b0 = 1 ∨ instrLength b0 = 2 ∨ instrLength b0 = 3 := by
  unfold instrLength
  split
  · exact .inr (.inr rfl)
  · split
    · exact .inr (.inl rfl)
    · exact .inl rfl

theorem instrLength_pos (b0 : Byte) : 0 < instrLength b0 := by
  obtain h | h | h := instrLength_cases b0 <;> omega

theorem decode_of_length_one {b0 : Byte} (h : instrLength b0 = 1) (rest : List Byte) :
    decode (b0 :: rest) = .ok (decodeBytes b0 0x00#8 0x00#8, rest) := by
  simp [decode, h]

theorem decode_of_length_two {b0 : Byte} (h : instrLength b0 = 2) (b1 : Byte) (rest : List Byte) :
    decode (b0 :: b1 :: rest) = .ok (decodeBytes b0 b1 0x00#8, rest) := by
  simp [decode, h]

theorem decode_of_length_three {b0 : Byte} (h : instrLength b0 = 3) (b1 b2 : Byte) (rest : List Byte) :
    decode (b0 :: b1 :: b2 :: rest) = .ok (decodeBytes b0 b1 b2, rest) := by
  simp [decode, h]

/-! ### Decoding the encoding -/

/-- The bytes are one whole instruction, which the two maps read as i. -/
def Encodes (i : Instr) : List Byte → Prop
  | [b0] => instrLength b0 = 1 ∧ decodeBytes b0 0x00#8 0x00#8 = i
  | [b0, b1] => instrLength b0 = 2 ∧ decodeBytes b0 b1 0x00#8 = i
  | [b0, b1, b2] => instrLength b0 = 3 ∧ decodeBytes b0 b1 b2 = i
  | _ => False

/-- A stream that decodes with nothing left over is one whole instruction. -/
theorem encodes_of_decode {i : Instr} {bs : List Byte} (h : decode bs = .ok (i, [])) : Encodes i bs := by
  unfold decode at h
  split at h
  · cases h
  · split at h
    case h_4 => cases h
    all_goals
      cases h
      exact ⟨‹_›, rfl⟩

/-- A word operand stands low byte first (rules R320, R335). -/
theorem decodeBytes_word {b0 : Byte} (h : b0 ≠ 0xCB#8) (w : Word) :
    decodeBytes b0 w.lo w.hi = decodePrimary b0 w.lo w := by
  rw [decodeBytes, if_neg h, Machine.Word.ofBytes_hi_lo]

theorem encode_encodes {i : Instr} (h : i.wellFormed = true) : Encodes i (encode i) := by
  cases i
  case prefixCb op2 => exact absurd h (by simp [Instr.wellFormed])
  case ldBcN16 w | ldDeN16 w | ldHlN16 w | ldSpN16 w | ldAtN16Sp w | ldAtN16A w | ldAAtN16 w
      | jpN16 w | jpNzN16 w | jpZN16 w | jpNcN16 w | jpCN16 w
      | callN16 w | callNzN16 w | callZN16 w | callNcN16 w | callCN16 w =>
    exact ⟨rfl, decodeBytes_word (by decide) w⟩
  all_goals exact ⟨rfl, rfl⟩

theorem decode_of_encodes {i : Instr} {bs : List Byte} (h : Encodes i bs) (rest : List Byte) :
    decode (bs ++ rest) = .ok (i, rest) ∧
      ∃ b0 bs', bs = b0 :: bs' ∧ bs'.length < 3 ∧ instrLength b0 = bs'.length + 1 := by
  match bs, h with
  | [b0], ⟨hlen, hi⟩ => exact ⟨hi ▸ decode_of_length_one hlen rest, b0, [], rfl, by simp, hlen⟩
  | [b0, b1], ⟨hlen, hi⟩ => exact ⟨hi ▸ decode_of_length_two hlen b1 rest, b0, [b1], rfl, by simp, hlen⟩
  | [b0, b1, b2], ⟨hlen, hi⟩ =>
    exact ⟨hi ▸ decode_of_length_three hlen b1 b2 rest, b0, [b1, b2], rfl, by simp, hlen⟩

/-- Settles O6: the encoding of each instruction is one whole instruction that the maps read as it. -/
theorem decodeInvertsEncode : Obligations.DecodeInvertsEncode :=
  fun _ rest h => decode_of_encodes (encode_encodes h) rest

theorem decodeBytes_of_ne {b0 : Byte} (h : b0 ≠ 0xCB#8) (b1 b2 : Byte) :
    decodeBytes b0 b1 b2 = decodePrimary b0 b1 (Word.ofBytes b2 b1) := if_neg h

theorem decodeSecondary_wellFormed (op2 : Byte) : (decodeSecondary op2).wellFormed = true := by
  revert op2; decide

theorem encode_decodeSecondary (op2 : Byte) : encode (decodeSecondary op2) = [0xCB#8, op2] := by
  revert op2; decide

/-- The bytes of the cell in row r and column c of the primary map (rule R340). -/
theorem encode_primaryMap (w : Word) {r c : Nat} (hr : r < 16) (hc : c < 16) :
    encode (((primaryMap w.lo w).getD r []).getD c .nop) =
      [BitVec.ofNat 8 (16 * r + c), w.lo, w.hi].take (instrLength (BitVec.ofNat 8 (16 * r + c))) := by
  have row : (List.range 16).map (fun c => encode (((primaryMap w.lo w).getD r []).getD c .nop)) =
      (List.range 16).map (fun c =>
        [BitVec.ofNat 8 (16 * r + c), w.lo, w.hi].take (instrLength (BitVec.ofNat 8 (16 * r + c)))) := by
    interval_cases r <;> rfl
  exact List.map_inj_left.1 row c (List.mem_range.2 hc)

theorem encode_decodePrimary (b0 : Byte) (w : Word) :
    encode (decodePrimary b0 w.lo w) = [b0, w.lo, w.hi].take (instrLength b0) := by
  have hcell := encode_primaryMap w (r := b0.toNat / 16) (c := b0.toNat % 16) (by omega) (by omega)
  rwa [Nat.div_add_mod, BitVec.ofNat_toNat, BitVec.setWidth_eq] at hcell

/-- The encoding of what the maps read is the bytes they read it from (rules R314, R316). -/
theorem encode_decodeBytes (b0 b1 b2 : Byte) :
    encode (decodeBytes b0 b1 b2) = [b0, b1, b2].take (instrLength b0) := by
  by_cases h : b0 = 0xCB#8
  · subst h
    exact encode_decodeSecondary b1
  · have hw := encode_decodePrimary b0 (Word.ofBytes b2 b1)
    rwa [Machine.Word.hi_ofBytes, Machine.Word.lo_ofBytes, ← decodeBytes_of_ne h] at hw

theorem encode_decodeBytes_cons (b0 b1 b2 : Byte) :
    encode (decodeBytes b0 b1 b2) = b0 :: [b1, b2].take (instrLength b0 - 1) := by
  rw [encode_decodeBytes, List.take_cons (instrLength_pos b0)]

theorem wellFormed_of_encode {i : Instr} {b0 : Byte} {bs : List Byte} (h : encode i = b0 :: bs) (hb : b0 ≠ 0xCB#8) :
    i.wellFormed = true := by
  cases i
  case prefixCb op2 => exact absurd (List.cons.inj h).1.symm hb
  all_goals rfl

/-- Only the words of PREFIX CB are ill formed, and the maps read those as the secondary instructions (rule R901). -/
theorem decodeBytes_wellFormed (b0 b1 b2 : Byte) : (decodeBytes b0 b1 b2).wellFormed = true := by
  by_cases h : b0 = 0xCB#8
  · subst h
    exact decodeSecondary_wellFormed b1
  · exact wellFormed_of_encode (encode_decodeBytes_cons b0 b1 b2) h

theorem decode_three (b0 b1 b2 : Byte) :
    decode [b0, b1, b2] = .ok (decodeBytes b0 b1 b2, [b0, b1, b2].drop (instrLength b0)) := by
  have h := (decodeInvertsEncode _ ([b0, b1, b2].drop (instrLength b0)) (decodeBytes_wellFormed b0 b1 b2)).1
  rwa [encode_decodeBytes, List.take_append_drop] at h

/-- Settles O7: three bytes hold a whole instruction. -/
theorem encodeInvertsDecode : Obligations.EncodeInvertsDecode := by
  intro b0 b1 b2
  refine ⟨_, _, decode_three b0 b1 b2, decodeBytes_wellFormed b0 b1 b2, ?_⟩
  rw [encode_decodeBytes, List.take_append_drop]

theorem length_encode_decodeBytes (b0 b1 b2 : Byte) : (encode (decodeBytes b0 b1 b2)).length = instrLength b0 := by
  rw [encode_decodeBytes, List.length_take]
  obtain h | h | h := instrLength_cases b0 <;> simp [h]

/-- A byte beyond the instruction's length is not used (rule R316). -/
theorem decodeBytes_of_length_one {b0 : Byte} (h : instrLength b0 = 1) (b1 b2 : Byte) :
    decodeBytes b0 b1 b2 = decodeBytes b0 0x00#8 0x00#8 := by
  have hd := (decode_three b0 b1 b2).symm.trans (decode_of_length_one h [b1, b2])
  exact (Prod.mk.inj (Except.ok.inj hd)).1

theorem decodeBytes_of_length_two {b0 : Byte} (h : instrLength b0 = 2) (b1 b2 : Byte) :
    decodeBytes b0 b1 b2 = decodeBytes b0 b1 0x00#8 := by
  have hd := (decode_three b0 b1 b2).symm.trans (decode_of_length_two h b1 [b2])
  exact (Prod.mk.inj (Except.ok.inj hd)).1

/-- Settles O5: each word by evaluating the decoder. -/
theorem decodedWordsOfTheRules : Obligations.DecodedWordsOfTheRules := by
  unfold Obligations.DecodedWordsOfTheRules
  and_intros <;> rfl

end Sys2Proof

namespace Sys2Proof.Machine

/-! ### The fetch -/

/-- Settles O4: by the first test of the step. -/
theorem brokenStateHasNoStep : Obligations.BrokenStateHasNoStep := fun _ => step_of_broken

/-- What the step runs after the fetch: the body, and the end of the step (rule R310). -/
def runDecoded (i : Instr) (t : State) : Result := completeStep (exec i t)

theorem step_live {s : State} (h : s.broken = false) : step s = fetchInstrThen runDecoded s.beginExecute := by
  simp [step, h]
  rfl

/-- pc after the opcode read, as rule R311 gives it. -/
theorem State.afterOpcodeFetch_memRead (s : State) (x : Word) :
    (s.memRead x).2.afterOpcodeFetch =
      if s.haltBug then { (s.memRead x).2 with haltBug := false }
      else { (s.memRead x).2 with regs := { s.regs with pc := s.regs.pc + 1 } } := by
  simp [State.afterOpcodeFetch, State.setPc]

theorem fetch8Then_live {s : State} (h : (s.memRead s.regs.pc).2.broken = false) (k : Byte → State → Result) :
    fetch8Then k s = k (s.memRead s.regs.pc).1
      { (s.memRead s.regs.pc).2 with regs := { s.regs with pc := s.regs.pc + 1 } } := by
  simp [fetch8Then, readThen_live h, State.setPc]

section
variable {s : State} (h : (s.memRead s.regs.pc).2.broken = false) (k : Instr → State → Result)
include h

theorem fetchInstrThen_one (hlen : instrLength (s.memRead s.regs.pc).1 = 1) :
    fetchInstrThen k s =
      k (decodeBytes (s.memRead s.regs.pc).1 0x00#8 0x00#8) (s.memRead s.regs.pc).2.afterOpcodeFetch := by
  rw [fetchInstrThen, opcodeFetchThen, readThen_live h]
  simp only [hlen]

theorem fetchInstrThen_two (hlen : instrLength (s.memRead s.regs.pc).1 = 2) :
    fetchInstrThen k s = fetch8Then (fun b1 => k (decodeBytes (s.memRead s.regs.pc).1 b1 0x00#8))
      (s.memRead s.regs.pc).2.afterOpcodeFetch := by
  rw [fetchInstrThen, opcodeFetchThen, readThen_live h]
  simp only [hlen]

theorem fetchInstrThen_three (hlen : instrLength (s.memRead s.regs.pc).1 = 3) :
    fetchInstrThen k s =
      fetch8Then (fun b1 => fetch8Then (fun b2 => k (decodeBytes (s.memRead s.regs.pc).1 b1 b2)))
        (s.memRead s.regs.pc).2.afterOpcodeFetch := by
  rw [fetchInstrThen, opcodeFetchThen, readThen_live h]
  simp only [hlen]

end

/-- Settles O1: the reads one after another, as many as the opcode asks for. -/
theorem stepRunsDecodedInstruction : Obligations.StepRunsDecodedInstruction := by
  intro s i hb hi start r0 t0 r1 t1 r2 t2 h0
  have hstep : step s = fetchInstrThen runDecoded start := step_live hb
  have ht0 : r0.2.afterOpcodeFetch = t0 := start.afterOpcodeFetch_memRead s.regs.pc
  have hregs : ∀ v : Word, { t0.regs with pc := v } = { s.regs with pc := v } := fun v => by
    simp only [t0, r0, start]
    split <;> simp
  have ht1 : { r1.2 with regs := { t0.regs with pc := t0.regs.pc + 1 } } = t1 :=
    congrArg (fun g => { r1.2 with regs := g }) (hregs _)
  have ht2 : { r2.2 with regs := { t1.regs with pc := t1.regs.pc + 1 } } = t2 := by
    simp [t2, t1, BitVec.add_assoc]
  refine ⟨fun hd => ?_, fun h1 => ⟨fun hd => ?_, fun h2 hd => ?_⟩⟩
  · obtain ⟨hlen, rfl⟩ := encodes_of_decode hd
    calc step s
        = runDecoded (decodeBytes r0.1 0x00#8 0x00#8) r0.2.afterOpcodeFetch :=
          hstep.trans (fetchInstrThen_one h0 _ hlen)
      _ = runDecoded (decodeBytes r0.1 0x00#8 0x00#8) t0 := by rw [ht0]
  · obtain ⟨hlen, rfl⟩ := encodes_of_decode hd
    calc step s
        = fetch8Then (fun b1 => runDecoded (decodeBytes r0.1 b1 0x00#8)) r0.2.afterOpcodeFetch :=
          hstep.trans (fetchInstrThen_two h0 _ hlen)
      _ = fetch8Then (fun b1 => runDecoded (decodeBytes r0.1 b1 0x00#8)) t0 := by rw [ht0]
      _ = runDecoded (decodeBytes r0.1 r1.1 0x00#8) t1 := by rw [fetch8Then_live h1, ht1]
  · obtain ⟨hlen, rfl⟩ := encodes_of_decode hd
    calc step s
        = fetch8Then (fun b1 => fetch8Then (fun b2 => runDecoded (decodeBytes r0.1 b1 b2))) r0.2.afterOpcodeFetch :=
          hstep.trans (fetchInstrThen_three h0 _ hlen)
      _ = fetch8Then (fun b1 => fetch8Then (fun b2 => runDecoded (decodeBytes r0.1 b1 b2))) t0 := by rw [ht0]
      _ = fetch8Then (fun b2 => runDecoded (decodeBytes r0.1 r1.1 b2)) t1 := by rw [fetch8Then_live h1, ht1]
      _ = runDecoded (decodeBytes r0.1 r1.1 r2.1) t2 := by rw [fetch8Then_live h2, ht2]

/-! ### The end of a step -/

theorem completeStep_of_broken {s : State} (h : s.broken = true) : completeStep (.next s) = .next s := by
  simp [completeStep, h]

theorem completeStep_live {s : State} (h : s.broken = false) :
    completeStep (.next s) = chargePendingThen interruptCheck s := by
  simp [completeStep, h]

/-- The charge of what is pending, where it ends in no fatal condition (rule R312). -/
theorem chargePendingThen_live {s t : State}
    (h : s.pendingTicks = 0 ∧ t = s ∨
      0 < s.pendingTicks ∧ (s.tick s.pendingTicks).broken = false ∧
        t = { s.tick s.pendingTicks with pendingTicks := 0 }) (k : State → Result) :
    chargePendingThen k s = k t := by
  obtain ⟨hp, rfl⟩ | ⟨hp, hlive, rfl⟩ := h
  · simp [chargePendingThen, hp]
  · rw [chargePendingThen, if_pos hp, tickThen_live hlive]

theorem State.interruptReady_iff (s : State) :
    s.interruptReady = true ↔ s.ime = true ∧ s.ifr &&& s.ie &&& 0x1F#8 ≠ 0x00#8 := by
  simp [State.interruptReady, State.interruptAvailable, Config.sourceMask]

/-- Settles O3: the charge, then the check. -/
theorem completeStepChargesAndChecks : Obligations.CompleteStepChargesAndChecks := by
  intro s
  refine ⟨completeStep_of_broken, fun t ht hb => ?_, fun hb hp hfatal => ?_⟩
  · rw [← t.interruptReady_iff, completeStep_live hb, chargePendingThen_live ht, interruptCheck]
    exact ⟨fun hready => if_pos hready, fun hnot => if_neg hnot⟩
  · rw [completeStep_live hb, chargePendingThen, if_pos hp, tickThen]
    simp [hfatal]

end Sys2Proof.Machine

namespace Sys2Proof.Machine

open Sys2Proof.Forms

/-! ### The fetch in quiet time -/

theorem fetchReads_succ (s : State) (n : Nat) :
    fetchReads s (n + 1) =
      .read (s.currentTick + 4 * (n + 1)) ((streamAddrs s).getD n 0) (s.peek ((streamAddrs s).getD n 0)) ::
        fetchReads s n := by
  simp [fetchReads, List.range_succ]

theorem fetched_quiet {s : State} {m n : Nat} (h : s.Quiet (m + 4 * n)) : (fetched s n).Quiet m :=
  ⟨h.live, h.noReads, h.noWrites, fun e he => by
    have := h.notDue e he
    simp only [fetched]
    omega⟩

/-- The opcode read, and pc after it (rule R311). -/
theorem State.Quiet.opcodeFetch {s : State} (h : s.Quiet 4) :
    (s.beginExecute.memRead s.regs.pc).1 = s.peek s.regs.pc ∧
      (s.beginExecute.memRead s.regs.pc).2.afterOpcodeFetch = fetched s 1 := by
  have hq : s.beginExecute.Quiet (0 + 4) := ⟨h.live, h.noReads, h.noWrites, h.notDue⟩
  rw [State.afterOpcodeFetch_memRead, hq.memRead]
  refine ⟨rfl, ?_⟩
  cases hb : s.haltBug <;> simp [hb, fetched, opcodeAdvance, fetchReads, streamAddrs, State.beginExecute, State.peek]

/-- The next byte of the stream is read at pc, which stands at its address (rule R220). -/
theorem fetch8Then_fetched {s : State} {n : Nat} (h : s.Quiet (4 * n + 4)) (hn : n = 1 ∨ n = 2)
    (k : Byte → State → Result) :
    fetch8Then k (fetched s n) = k (s.peek ((streamAddrs s).getD n 0)) (fetched s (n + 1)) := by
  have hq : (fetched s n).Quiet (0 + 4) := fetched_quiet (h.mono (by omega))
  have hpc : (fetched s n).regs.pc = (streamAddrs s).getD n 0 := by
    obtain rfl | rfl := hn <;> simp [fetched, streamAddrs]
  have hnext : (fetched s n).regs.pc + 1 = (fetched s (n + 1)).regs.pc := by
    obtain rfl | rfl := hn <;> simp [fetched, BitVec.add_assoc]
  have hpeek : ∀ x, (fetched s n).peek x = s.peek x := fun _ => rfl
  rw [fetch8Then_live (hq.after_memRead _).live, hnext, hq.memRead, hpc, hpeek]
  congr 1
  simp [fetched, fetchReads_succ]
  omega

/-- The instruction of the three bytes of the stream. -/
def streamInstr (s : State) : Instr :=
  decodeBytes (s.peek s.regs.pc) (s.peek (s.regs.pc + opcodeAdvance s)) (s.peek (s.regs.pc + opcodeAdvance s + 1))

theorem decode_stream (s : State) :
    decode (stream s) = .ok (streamInstr s, (stream s).drop (instrLength (s.peek s.regs.pc))) :=
  decode_three _ _ _

theorem fetchInstrThen_quiet {s : State} (h : s.Quiet 12) (k : Instr → State → Result) :
    fetchInstrThen k s.beginExecute = k (streamInstr s) (fetched s (instrLength (s.peek s.regs.pc))) := by
  have hq : s.beginExecute.Quiet (8 + 4) := ⟨h.live, h.noReads, h.noWrites, h.notDue⟩
  have hlive : (s.beginExecute.memRead s.regs.pc).2.broken = false := (hq.after_memRead _).live
  obtain ⟨hbyte, hfirst⟩ := (h.mono (by decide) : s.Quiet 4).opcodeFetch
  have hsecond := fetch8Then_fetched (s := s) (n := 1) (h.mono (by decide)) (.inl rfl)
  have hthird := fetch8Then_fetched (s := s) (n := 2) (h.mono (by decide)) (.inr rfl)
  obtain hlen | hlen | hlen := instrLength_cases (s.peek s.regs.pc)
  · rw [hlen, streamInstr, decodeBytes_of_length_one hlen]
    calc fetchInstrThen k s.beginExecute
        = k (decodeBytes (s.beginExecute.memRead s.regs.pc).1 0x00#8 0x00#8)
            (s.beginExecute.memRead s.regs.pc).2.afterOpcodeFetch := fetchInstrThen_one hlive _ (hbyte ▸ hlen)
      _ = k (decodeBytes (s.peek s.regs.pc) 0x00#8 0x00#8) (fetched s 1) := by rw [hbyte, hfirst]
  · rw [hlen, streamInstr, decodeBytes_of_length_two hlen]
    calc fetchInstrThen k s.beginExecute
        = fetch8Then (fun b1 => k (decodeBytes (s.beginExecute.memRead s.regs.pc).1 b1 0x00#8))
            (s.beginExecute.memRead s.regs.pc).2.afterOpcodeFetch := fetchInstrThen_two hlive _ (hbyte ▸ hlen)
      _ = _ := by
          rw [hbyte, hfirst, hsecond]
          rfl
  · rw [hlen, streamInstr]
    calc fetchInstrThen k s.beginExecute
        = fetch8Then
            (fun b1 => fetch8Then (fun b2 => k (decodeBytes (s.beginExecute.memRead s.regs.pc).1 b1 b2)))
            (s.beginExecute.memRead s.regs.pc).2.afterOpcodeFetch := fetchInstrThen_three hlive _ (hbyte ▸ hlen)
      _ = _ := by
          rw [hbyte, hfirst, hsecond, hthird]
          rfl

/-- A step in quiet time, in terms of the bytes at pc. -/
theorem step_quiet {s : State} (h : s.Quiet 12) :
    step s = completeStep (exec (streamInstr s) (fetched s (instrLength (s.peek s.regs.pc)))) :=
  (step_live h.live).trans (fetchInstrThen_quiet h runDecoded)

/-- Settles O2: each byte of the stream is read at its address, and the state after the reads is `fetched`. -/
theorem quietStepRunsBytesAtPc : Obligations.QuietStepRunsBytesAtPc := by
  intro s i rest h _ hd
  rw [decode_stream] at hd
  cases hd
  rw [step_quiet h, streamInstr, length_encode_decodeBytes]

theorem stream_of_noHaltBug {s : State} (h : s.haltBug = false) :
    stream s = [s.peek s.regs.pc, s.peek (s.regs.pc + 1), s.peek (s.regs.pc + 2)] := by
  simp [stream, streamAddrs, opcodeAdvance, h, BitVec.add_assoc]

theorem fetched_regs {s : State} {n : Nat} (hb : s.haltBug = false) (hn : 0 < n) :
    (fetched s n).regs = { s.regs with pc := s.regs.pc + BitVec.ofNat 16 n } := by
  have hpc : s.regs.pc + 1 + BitVec.ofNat 16 (n - 1) = s.regs.pc + BitVec.ofNat 16 n := by
    obtain ⟨m, rfl⟩ : ∃ m, n = m + 1 := ⟨n - 1, by omega⟩
    bv_omega
  simp only [fetched, opcodeAdvance, hb, Bool.false_eq_true, if_false, hpc]

/-! ### A placed word -/

theorem coreOwned_eq_false {x : Word} : coreOwned x = false ↔ x ≠ Config.ifAddr ∧ x ≠ Config.ieAddr := by
  simp [coreOwned]

theorem peek_env {x : Word} (hx : coreOwned x = false) (s : State) : s.peek x = s.env.mem.read x.toNat := by
  obtain ⟨hif, hie⟩ := coreOwned_eq_false.1 hx
  simp [State.peek, hif, hie]

section
variable {s : State} {x : Word} (hx : coreOwned x = false) (v : Byte)
include hx

theorem State.placeByte_env : s.placeByte x v = { s with env := { s.env with mem := s.env.mem.write x.toNat v } } := by
  obtain ⟨hif, hie⟩ := coreOwned_eq_false.1 hx
  simp [State.placeByte, hif, hie]

theorem State.peek_placeByte_same (hm : Memory.wf s.env.mem) : (s.placeByte x v).peek x = v := by
  rw [State.placeByte_env hx, peek_env hx]
  exact Memory.read_write_same _ _ _ hm

theorem State.peek_placeByte_ne {y : Word} (hy : y ≠ x) : (s.placeByte x v).peek y = s.peek y := by
  rw [State.placeByte_env hx]
  simp only [State.peek, Memory.read_write_ne _ v (BitVec.toNat_ne.1 hy)]

theorem State.memory_placeByte (hm : Memory.wf s.env.mem) : Memory.wf (s.placeByte x v).env.mem := by
  rw [State.placeByte_env hx]
  exact Memory.wf_write v x.isLt hm

end

/-- Three bytes placed at pc, where the environment owns the addresses and has no answer lined up: only its memory and
haltBug change, and the stream is those bytes. -/
theorem State.placeBytes_env {s : State} (hr : s.env.reads = []) (hm : Memory.wf s.env.mem) {b0 b1 b2 : Byte}
    (h0 : coreOwned s.regs.pc = false) (h1 : coreOwned (s.regs.pc + 1) = false)
    (h2 : coreOwned (s.regs.pc + 2) = false) :
    ∃ m, let t : State := { s with haltBug := false, env := { s.env with mem := m } }
      s.placeBytes [b0, b1, b2] = t ∧ stream t = [b0, b1, b2] ∧
      ∀ x : Word, x ≠ s.regs.pc → x ≠ s.regs.pc + 1 → x ≠ s.regs.pc + 2 → t.peek x = s.peek x := by
  let p0 := s.placeByte s.regs.pc b0
  let p1 := p0.placeByte (s.regs.pc + 1) b1
  let p2 := p1.placeByte (s.regs.pc + 2) b2
  have hat : s.placeAt s.regs.pc [b0, b1, b2] = p2 := by simp [State.placeAt, p0, p1, p2, BitVec.add_assoc]
  have henv : ∃ m, p2 = { s with env := { s.env with mem := m } } := by
    simp only [p2, p1, p0, State.placeByte_env h0, State.placeByte_env h1, State.placeByte_env h2]
    exact ⟨_, rfl⟩
  obtain ⟨m, hp2⟩ := henv
  have hplaced : s.placeBytes [b0, b1, b2] = { p2 with haltBug := false } := by
    simp [State.placeBytes, hat, hp2, hr]
  have hm0 : Memory.wf p0.env.mem := State.memory_placeByte h0 b0 hm
  have hm1 : Memory.wf p1.env.mem := State.memory_placeByte h1 b1 hm0
  have ne01 : s.regs.pc ≠ s.regs.pc + 1 := by bv_omega
  have ne02 : s.regs.pc ≠ s.regs.pc + 2 := by bv_omega
  have ne12 : s.regs.pc + 1 ≠ s.regs.pc + 2 := by bv_omega
  have hpeek0 : p2.peek s.regs.pc = b0 := by
    rw [State.peek_placeByte_ne h2 b2 ne02, State.peek_placeByte_ne h1 b1 ne01, State.peek_placeByte_same h0 b0 hm]
  have hpeek1 : p2.peek (s.regs.pc + 1) = b1 := by
    rw [State.peek_placeByte_ne h2 b2 ne12, State.peek_placeByte_same h1 b1 hm0]
  have hpeek2 : p2.peek (s.regs.pc + 2) = b2 := State.peek_placeByte_same h2 b2 hm1
  have hshow : ∀ x, ({ s with haltBug := false, env := { s.env with mem := m } } : State).peek x = p2.peek x :=
    fun x => by rw [hp2]; rfl
  refine ⟨m, by rw [hplaced, hp2], ?_, fun x hx0 hx1 hx2 => ?_⟩
  · rw [stream_of_noHaltBug rfl]
    simp only [hshow, hpeek0, hpeek1, hpeek2]
  · calc State.peek _ x
        = p2.peek x := hshow x
      _ = p1.peek x := State.peek_placeByte_ne h2 b2 hx2
      _ = p0.peek x := State.peek_placeByte_ne h1 b1 hx1
      _ = s.peek x := State.peek_placeByte_ne h0 b0 hx0

/-- Settles O8: the placed bytes are the stream of a quiet state, so the step runs them. -/
theorem placedWordRunsNext : Obligations.PlacedWordRunsNext := by
  intro s nbits w i h hm hbug h0 h1 h2 hd
  obtain ⟨b0, b1, b2, hbytes⟩ : ∃ b0 b1 b2, tableBytes nbits w = [b0, b1, b2] := by
    unfold tableBytes
    split <;> exact ⟨_, _, _, rfl⟩
  have hword : s.withFetchWord nbits w = s.placeBytes [b0, b1, b2] := congrArg s.placeBytes hbytes
  obtain rfl : decodeBytes b0 b1 b2 = i := by
    rw [decodeTableWord, hbytes, decode_three] at hd
    exact Option.some.inj hd
  obtain ⟨m, hplaced, hstream, hpeek⟩ := State.placeBytes_env (b0 := b0) (b1 := b1) (b2 := b2) h.noReads hm h0 h1 h2
  have hstep := quietStepRunsBytesAtPc _ _ _ (by exact ⟨h.live, h.noReads, h.noWrites, h.notDue⟩)
    (decodeBytes_wellFormed b0 b1 b2) ((congrArg decode hstream).trans (decode_three b0 b1 b2))
  have hlen : 0 < (encode (decodeBytes b0 b1 b2)).length := by
    rw [length_encode_decodeBytes]
    exact instrLength_pos b0
  rw [hword, hplaced]
  exact ⟨_, hstep, fetched_regs rfl hlen, rfl, rfl, rfl, rfl, rfl, h.live, rfl, hpeek⟩

end Sys2Proof.Machine

namespace Sys2Proof.Machine

open Sys2Proof.Forms

/-! ### Jumps -/

theorem displaced_eq_add (x : Word) (e : Byte) : displaced x e = x + sext16 e := by
  have he : (if e.toNat ≥ 128 then (e.toNat : Int) - 256 else e.toNat) = e.toInt := by
    rw [BitVec.toInt_eq_toNat_cond]
    split <;> split <;> omega
  rw [displaced, he, BitVec.ofInt_add, BitVec.ofInt_natCast, BitVec.ofNat_toNat, BitVec.setWidth_eq]
  rfl

theorem jumpForms_exec (n16 : Word) (s : State) :
    ∀ f ∈ jumpForms n16 s, exec f.1 s = if f.2 then jump n16 s else .next s := by
  simp only [jumpForms, List.forall_mem_cons, List.not_mem_nil, false_implies, implies_true, and_true]
  and_intros <;> rfl

theorem jumpRelForms_exec (e8 : Byte) (s : State) :
    ∀ f ∈ jumpRelForms e8 s, exec f.1 s = if f.2 then jumpRel e8 s else .next s := by
  simp only [jumpRelForms, List.forall_mem_cons, List.not_mem_nil, false_implies, implies_true, and_true]
  and_intros <;> rfl

/-- Settles O28: each jump by its form. -/
theorem jumpResults : Obligations.JumpResults := by
  intro n16 e8 s
  refine ⟨fun f hf => ?_, fun f hf => ?_, rfl⟩
  · rw [jumpForms_exec n16 s f hf]
    rfl
  · rw [jumpRelForms_exec e8 s f hf, displaced_eq_add]
    rfl

/-! ### Quiet time passes -/

/-- From s to t, c ticks pass in which nothing but the bus is at work: registers, IE, IF and the memory's bytes may
change, and nothing else of what a quiet step depends on. -/
structure State.Passed (s : State) (c : Nat) (t : State) : Prop where
  currentTick : t.currentTick = s.currentTick + c
  ticksThisCall : t.ticksThisCall = s.ticksThisCall + c
  flags : t.flags = s.flags
  pendingTicks : t.pendingTicks = s.pendingTicks
  ime : t.ime = s.ime
  broken : t.broken = s.broken
  events : t.events = s.events
  reads : t.env.reads = s.env.reads
  writes : t.env.writes = s.env.writes
  memory : Memory.wf s.env.mem → Memory.wf t.env.mem

theorem State.Passed.refl (s : State) : s.Passed 0 s := ⟨rfl, rfl, rfl, rfl, rfl, rfl, rfl, rfl, rfl, id⟩

theorem State.Passed.trans {s t u : State} {c d : Nat} (h : s.Passed c t) (k : t.Passed d u) : s.Passed (c + d) u :=
  ⟨by rw [k.currentTick, h.currentTick, Nat.add_assoc], by rw [k.ticksThisCall, h.ticksThisCall, Nat.add_assoc],
   k.flags.trans h.flags, k.pendingTicks.trans h.pendingTicks, k.ime.trans h.ime, k.broken.trans h.broken,
   k.events.trans h.events, k.reads.trans h.reads, k.writes.trans h.writes, k.memory ∘ h.memory⟩

theorem State.Passed.withRegs {s t : State} {c : Nat} (h : s.Passed c t) (g : Registers) :
    s.Passed c { t with regs := g } :=
  ⟨h.currentTick, h.ticksThisCall, h.flags, h.pendingTicks, h.ime, h.broken, h.events, h.reads, h.writes, h.memory⟩

theorem State.Quiet.after {s t : State} {c n : Nat} (h : s.Quiet (n + c)) (hp : s.Passed c t) : t.Quiet n :=
  ⟨hp.broken.trans h.live, hp.reads.trans h.noReads, hp.writes.trans h.noWrites, fun e he => by
    have := h.notDue e (hp.events ▸ he)
    rw [hp.currentTick]
    omega⟩

theorem State.Quiet.passed_memRead {s : State} {n : Nat} (h : s.Quiet (n + 4)) (x : Word) :
    s.Passed 4 (s.memRead x).2 := by
  rw [h.memRead x]
  exact ⟨rfl, rfl, rfl, rfl, rfl, rfl, rfl, rfl, rfl, id⟩

theorem State.Quiet.passed_memWrite {s : State} {n : Nat} (h : s.Quiet (n + 4)) (x : Word) (v : Byte) :
    s.Passed 4 (s.memWrite x v) := by
  refine ⟨s.memWrite_currentTick x v, s.memWrite_ticksThisCall x v, s.memWrite_flags x v, s.memWrite_pendingTicks x v,
    ?_, (h.after_memWrite x v).live.trans h.live.symm, ?_, ?_, ?_, fun hm => h.memory_memWrite hm x v⟩
  all_goals rw [h.memWrite x v]

/-! ### Instructions in quiet time -/

/-- An instruction that starts in s runs to its end in quiet time: it charges and accrues n ticks together, changes
IME by m, and its flags fit the row. -/
def Result.Runs (s : State) (n : Nat) (m : Bool → Bool) (row : FlagRow) (r : Result) : Prop :=
  ∃ u g f c p,
    r = .next { u with regs := g, flags := f, ime := m s.ime, pendingTicks := s.pendingTicks + p } ∧
      s.Passed c u ∧ c + p = n ∧ row.fits s.flags f = true

section
variable {s : State} {k n : Nat} {m : Bool → Bool} {row : FlagRow}

/-- A meaning without a bus access. -/
theorem Result.Runs.noAccess {f : Flags} (hf : row.fits s.flags f = true) (g : Registers) (p : Nat) :
    Result.Runs s p m row
      (.next { s with regs := g, flags := f, ime := m s.ime, pendingTicks := s.pendingTicks + p }) :=
  ⟨s, g, f, 0, p, rfl, .refl s, Nat.zero_add p, hf⟩

theorem Result.Runs.of_passed {t : State} {r : Result} {c : Nat} (hp : s.Passed c t) (h : r.Runs t n m row) :
    r.Runs s (n + c) m row := by
  obtain ⟨u, g, f, d, p, hr, hu, hn, hf⟩ := h
  rw [hp.flags] at hf
  rw [hp.ime, hp.pendingTicks] at hr
  exact ⟨u, g, f, c + d, p, hr, hp.trans hu, by omega, hf⟩

/-- A bus read in quiet time, and what follows it. -/
theorem Result.Runs.read (h : s.Quiet (k + 4)) (x : Word) {f : Byte → State → Result}
    (hf : ∀ v t, t.Quiet k → (f v t).Runs t n m row) : (readThen x f s).Runs s (n + 4) m row := by
  rw [readThen_quiet h]
  exact .of_passed (h.passed_memRead x) (hf _ _ (h.after_memRead x))

theorem Result.Runs.write (h : s.Quiet (k + 4)) (x : Word) (v : Byte) {f : State → Result}
    (hf : ∀ t, t.Quiet k → t.flags = s.flags → (f t).Runs t n m row) :
    (writeThen x v f s).Runs s (n + 4) m row := by
  rw [writeThen_quiet h]
  exact .of_passed (h.passed_memWrite x v) (hf _ (h.after_memWrite x v) (s.memWrite_flags x v))

theorem Result.Runs.push8 (h : s.Quiet (k + 4)) (v : Byte) {f : State → Result}
    (hf : ∀ t, t.Quiet k → (f t).Runs t n m row) : (push8Then v f s).Runs s (n + 4) m row :=
  .of_passed (c := 0) ((State.Passed.refl s).withRegs _) (.write (h.setSp _) _ v (fun t ht _ => hf t ht))

theorem Result.Runs.pop8 (h : s.Quiet (k + 4)) {f : Byte → State → Result}
    (hf : ∀ v t, t.Quiet k → (f v t).Runs t n m row) : (pop8Then f s).Runs s (n + 4) m row :=
  .read h _ (fun v t ht => .of_passed (c := 0) ((State.Passed.refl t).withRegs _)
    (hf v _ ⟨ht.live, ht.noReads, ht.noWrites, ht.notDue⟩))

theorem Result.Runs.push16 (h : s.Quiet 8) (v : Word) {f : State → Result} (hf : ∀ t, (f t).Runs t n m row) :
    (push16Then v f s).Runs s (n + 8) m row :=
  .push8 (k := 4) h _ (fun _ ht => .push8 (k := 0) ht _ (fun t _ => hf t))

theorem Result.Runs.pop16 (h : s.Quiet 8) {f : Word → State → Result} (hf : ∀ v t, (f v t).Runs t n m row) :
    (pop16Then f s).Runs s (n + 8) m row :=
  .pop8 (k := 4) h (fun _ _ ht => .pop8 (k := 0) ht (fun _ t _ => hf _ t))

/-- An internal cycle accrued before what follows. -/
theorem Result.Runs.internal {r : Result} (h : r.Runs s.internal n m row) : r.Runs s (n + 4) m row := by
  obtain ⟨u, g, f, c, p, hr, hu, hn, hf⟩ := h
  refine ⟨{ u with pendingTicks := s.pendingTicks }, g, f, c, 4 + p, ?_, ?_, by omega, hf⟩
  · rw [hr, State.internal_pendingTicks, Nat.add_assoc]
    rfl
  · exact ⟨hu.currentTick, hu.ticksThisCall, hu.flags, rfl, hu.ime, hu.broken, hu.events, hu.reads, hu.writes,
      hu.memory⟩

end

/-! ### The flags of the meanings fit the rows -/

/-- The row of an accumulator operation (rules R410 to R433). -/
def aluRow : AluOp → FlagRow
  | .add | .adc => additive
  | .sub | .sbc | .cp => subtractive
  | .and => conjunctive
  | .xor | .or => logical

/-- The row of a secondary-table rotate or shift (rule R810). -/
def rotRow : RotOp → FlagRow
  | .swap => logical
  | _ => shifted

section
variable (f : Flags) (v : Byte)

theorem keepAll_fits : keepAll.fits f f = true := by simp [keepAll, FlagRow.fits, FlagRule.fits]

theorem alu8_fits (op : AluOp) (x y : Byte) (c : Bool) : (aluRow op).fits f (alu8 op x y c).flags = true := by
  cases op <;> rfl

theorem inc8_fits : incremented.fits f (inc8 v f).flags = true := by
  simp [incremented, FlagRow.fits, FlagRule.fits, inc8]

theorem dec8_fits : decremented.fits f (dec8 v f).flags = true := by
  simp [decremented, FlagRow.fits, FlagRule.fits, dec8]

theorem daa8_fits : adjusted.fits f (daa8 v f).flags = true := by
  simp [adjusted, FlagRow.fits, FlagRule.fits, daa8]

theorem complemented_fits : complemented.fits f { f with n := true, h := true } = true := by
  simp [complemented, FlagRow.fits, FlagRule.fits]

theorem carrySet_fits : carrySet.fits f { f with n := false, h := false, c := true } = true := by
  simp [carrySet, FlagRow.fits, FlagRule.fits]

theorem carryFlipped_fits : carryFlipped.fits f { f with n := false, h := false, c := !f.c } = true := by
  simp [carryFlipped, FlagRow.fits, FlagRule.fits]

theorem add16_fits (x y : Word) : addedPair.fits f (add16 x y f).flags = true := by
  simp [addedPair, FlagRow.fits, FlagRule.fits, add16]

theorem bitFlags_fits (b : Nat) : bitTested.fits f (bitFlags b v f) = true := by
  simp [bitTested, FlagRow.fits, FlagRule.fits, bitFlags]

theorem rotFlags8_fits (op : RotOp) (c : Bool) : (rotRow op).fits f (rotFlags8 op v c).flags = true := by
  cases op <;> rfl

end

/-! ### The meanings in quiet time -/

section
variable {s : State} {row : FlagRow}

theorem accumulate_runs (op : AluOp) (v : Byte) : Result.Runs s 0 id (aluRow op) (.next (s.accumulate op v)) := by
  unfold State.accumulate
  simp only
  split
  · exact .noAccess (alu8_fits _ _ _ _ _) _ 0
  · exact .noAccess (alu8_fits _ _ _ _ _) _ 0

theorem jumpIf_runs (cc : Cond) (n16 : Word) :
    (jumpIf cc n16 s).Runs s (if s.flags.holds cc then 4 else 0) id keepAll := by
  unfold jumpIf
  split
  · exact .noAccess (keepAll_fits _) _ 4
  · exact .noAccess (keepAll_fits _) _ 0

theorem jumpRelIf_runs (cc : Cond) (e8 : Byte) :
    (jumpRelIf cc e8 s).Runs s (if s.flags.holds cc then 4 else 0) id keepAll := by
  unfold jumpRelIf
  split
  · exact .noAccess (keepAll_fits _) _ 4
  · exact .noAccess (keepAll_fits _) _ 0

variable (h : s.Quiet 8)
include h

theorem aluHl_runs (op : AluOp) : (aluHl op s).Runs s 4 id (aluRow op) :=
  .read (k := 4) h _ (fun v _ _ => accumulate_runs op v)

theorem incHl_runs : (incHl s).Runs s 8 id incremented :=
  .read (k := 4) h _ (fun v _ ht => .write (k := 0) ht _ _ (fun _ _ hu => .noAccess (hu ▸ inc8_fits _ v) _ 0))

theorem decHl_runs : (decHl s).Runs s 8 id decremented :=
  .read (k := 4) h _ (fun v _ ht => .write (k := 0) ht _ _ (fun _ _ hu => .noAccess (hu ▸ dec8_fits _ v) _ 0))

theorem loadHl_runs (r : Reg8) : (loadHl r s).Runs s 4 id keepAll :=
  .read (k := 4) h _ (fun _ _ _ => .noAccess (keepAll_fits _) _ 0)

theorem loadAcc_runs (x : Word) : (loadAcc x s).Runs s 4 id keepAll :=
  .read (k := 4) h _ (fun _ _ _ => .noAccess (keepAll_fits _) _ 0)

theorem store_runs (x : Word) (v : Byte) : (writeThen x v .next s).Runs s 4 id keepAll :=
  .write (k := 4) h _ _ (fun _ _ _ => .noAccess (keepAll_fits _) _ 0)

theorem loadAccStep_runs (d : Word) : (loadAccStep d s).Runs s 4 id keepAll :=
  .read (k := 4) h _ (fun _ _ _ => .noAccess (keepAll_fits _) _ 0)

theorem storeAccStep_runs (d : Word) : (storeAccStep d s).Runs s 4 id keepAll :=
  .write (k := 4) h _ _ (fun _ _ _ => .noAccess (keepAll_fits _) _ 0)

theorem storeSp_runs (n16 : Word) : (storeSp n16 s).Runs s 8 id keepAll :=
  .write (k := 4) h _ _ (fun _ ht _ => .write (k := 0) ht _ _ (fun _ _ _ => .noAccess (keepAll_fits _) _ 0))

theorem pushPair_runs (r : StackPair) : (pushPair r s).Runs s 12 id keepAll :=
  .internal (.push16 h.internal _ (fun _ => .noAccess (keepAll_fits _) _ 0))

theorem popPair_runs (r : StackPair) (hr : r ≠ .af) : (popPair r s).Runs s 8 id keepAll :=
  .pop16 h (fun v t => by
    cases r
    case af => exact absurd rfl hr
    all_goals exact .noAccess (keepAll_fits _) _ 0)

theorem popAf_runs : (popPair .af s).Runs s 8 id popped :=
  .pop16 h (fun _ _ => .noAccess rfl _ 0)

theorem call_runs (n16 : Word) : (call n16 s).Runs s 12 id keepAll :=
  .internal (.push16 h.internal _ (fun _ => .noAccess (keepAll_fits _) _ 0))

theorem callIf_runs (cc : Cond) (n16 : Word) :
    (callIf cc n16 s).Runs s (if s.flags.holds cc then 12 else 0) id keepAll := by
  unfold callIf
  split
  · exact call_runs h n16
  · exact .noAccess (keepAll_fits _) _ 0

theorem ret_runs : (ret s).Runs s 12 id keepAll :=
  .pop16 h (fun _ _ => .noAccess (keepAll_fits _) _ 4)

theorem retIf_runs (cc : Cond) : (retIf cc s).Runs s (if s.flags.holds cc then 16 else 4) id keepAll := by
  unfold retIf
  split
  · exact .internal (ret_runs h.internal)
  · exact .noAccess (keepAll_fits _) _ 4

theorem returnFromInterrupt_runs : (returnFromInterrupt s).Runs s 12 (fun _ => true) keepAll :=
  .pop16 h (fun _ _ => .noAccess (keepAll_fits _) _ 4)

end

/-! ### The secondary table -/

/-- The row and column of the secondary map read the instruction whose fields they are (rules R322, R341). -/
theorem exec_secondaryMap {r c : Nat} (hr : r < 16) (hc : c < 16) :
    exec ((secondaryMap.getD r []).getD c .nop) = runSecondary (BitVec.ofNat 8 (16 * r + c)) := by
  have row : (List.range 16).map (fun c => exec ((secondaryMap.getD r []).getD c .nop)) =
      (List.range 16).map (fun c => runSecondary (BitVec.ofNat 8 (16 * r + c))) := by
    interval_cases r <;> rfl
  exact List.map_inj_left.1 row c (List.mem_range.2 hc)

theorem exec_decodeSecondary (op2 : Byte) : exec (decodeSecondary op2) = runSecondary op2 := by
  have hcell := exec_secondaryMap (r := op2.toNat / 16) (c := op2.toNat % 16) (by omega) (by omega)
  rwa [Nat.div_add_mod, BitVec.ofNat_toNat, BitVec.setWidth_eq] at hcell

/-- The ticks of one access to a secondary-table operand (rules R210, R322). -/
def operandTicks : CbOperand → Nat
  | .reg _ => 0
  | .atHl => 4

section
variable {s : State} {n : Nat} (h : s.Quiet (n + 4)) (z : CbOperand)
include h

theorem readOperandThen_quiet (k : Byte → State → Result) :
    readOperandThen z k s = k (readAt s z).1 (readAt s z).2 := by
  cases z with
  | reg r => rfl
  | atHl => exact readThen_live (h.after_memRead _).live k

theorem State.Quiet.passed_readAt : s.Passed (operandTicks z) (readAt s z).2 := by
  cases z with
  | reg r => exact .refl s
  | atHl => exact h.passed_memRead _

theorem State.Quiet.after_readAt : (readAt s z).2.Quiet n := by
  cases z with
  | reg r => exact h.mono (by omega)
  | atHl => exact h.after_memRead _

theorem writeOperandThen_quiet (v : Byte) (k : State → Result) : writeOperandThen z v k s = k (writeAt s v z) := by
  cases z with
  | reg r => rfl
  | atHl => exact writeThen_quiet h _ v k

theorem State.Quiet.passed_writeAt (v : Byte) : s.Passed (operandTicks z) (writeAt s v z) := by
  cases z with
  | reg r => exact (State.Passed.refl s).withRegs _
  | atHl => exact h.passed_memWrite _ v

end

/-- pc and sp are the same in two states. -/
structure State.SamePcSp (s t : State) : Prop where
  pc : t.regs.pc = s.regs.pc
  sp : t.regs.sp = s.regs.sp

theorem readAt_samePcSp (s : State) (z : CbOperand) : s.SamePcSp (readAt s z).2 := by
  cases z with
  | reg r => exact ⟨rfl, rfl⟩
  | atHl => exact ⟨by simp [readAt], by simp [readAt]⟩

theorem writeAt_samePcSp (s : State) (v : Byte) (z : CbOperand) : s.SamePcSp (writeAt s v z) := by
  cases z with
  | reg r => exact ⟨Registers.set8_pc _ _ _, Registers.set8_sp _ _ _⟩
  | atHl => exact ⟨by simp [writeAt], by simp [writeAt]⟩

/-- A secondary-table instruction ends in quiet time after c ticks, with its flags as the row says and pc and sp as
they were. -/
def Result.RunsSecondary (s : State) (c : Nat) (row : FlagRow) (r : Result) : Prop :=
  ∃ t f, r = .next (t.setFlags f) ∧ s.Passed c t ∧ s.SamePcSp t ∧ row.fits s.flags f = true

section
variable {s : State} (h : s.Quiet 8) (z : CbOperand)
include h

/-- The operand is read, changed and written back. -/
theorem readWriteOperand_quiet (result : Byte → State → Byte) (k : Byte → State → State → Result) :
    ∃ v t u, readOperandThen z (fun v t => writeOperandThen z (result v t) (k v t) t) s = k v t u ∧
      s.Passed (operandTicks z + operandTicks z) u ∧ s.SamePcSp u := by
  have hread : s.Quiet (4 + 4) := h
  have hwrite : (readAt s z).2.Quiet (0 + 4) := hread.after_readAt z
  have hr := readAt_samePcSp s z
  have hw := writeAt_samePcSp (readAt s z).2 (result (readAt s z).1 (readAt s z).2) z
  rw [readOperandThen_quiet hread, writeOperandThen_quiet hwrite]
  exact ⟨_, _, _, rfl, (hread.passed_readAt z).trans (hwrite.passed_writeAt z _), hw.pc.trans hr.pc,
    hw.sp.trans hr.sp⟩

theorem rotOperand_runs (op : RotOp) :
    (rotOperand op z s).RunsSecondary s (operandTicks z + operandTicks z) (rotRow op) := by
  obtain ⟨v, t, u, hk, hu, hpc⟩ := readWriteOperand_quiet h z (fun v t => (rotFlags8 op v t.flags.c).value)
    (fun v t u => .next (u.setFlags (rotFlags8 op v t.flags.c).flags))
  exact ⟨u, _, hk, hu, hpc, rotFlags8_fits _ _ _ _⟩

theorem bitOperand_runs (b : Nat) : (bitOperand b z s).RunsSecondary s (operandTicks z) bitTested := by
  have hread : s.Quiet (4 + 4) := h
  have hp := hread.passed_readAt z
  rw [bitOperand, readOperandThen_quiet hread]
  exact ⟨_, _, rfl, hp, readAt_samePcSp s z, hp.flags ▸ bitFlags_fits _ _ _⟩

theorem resOperand_runs (b : Nat) :
    (resOperand b z s).RunsSecondary s (operandTicks z + operandTicks z) keepAll := by
  obtain ⟨v, t, u, hk, hu, hpc⟩ := readWriteOperand_quiet h z (fun v _ => resBit b v) (fun _ _ => .next)
  exact ⟨u, u.flags, hk, hu, hpc, hu.flags ▸ keepAll_fits _⟩

theorem setOperand_runs (b : Nat) :
    (setOperand b z s).RunsSecondary s (operandTicks z + operandTicks z) keepAll := by
  obtain ⟨v, t, u, hk, hu, hpc⟩ := readWriteOperand_quiet h z (fun v _ => setBit b v) (fun _ _ => .next)
  exact ⟨u, u.flags, hk, hu, hpc, hu.flags ▸ keepAll_fits _⟩

end

theorem operandTicks_cbOperand {k : Nat} (hk : k < 8) : operandTicks (cbOperand k) = if k = 6 then 4 else 0 := by
  interval_cases k <;> rfl

theorem rotRow_cbRotOp {k : Nat} (hk : k < 8) : rotRow (cbRotOp k) = if k = 6 then logical else shifted := by
  interval_cases k <;> rfl

/-- Every instruction of the secondary table, by its fields. -/
theorem runSecondary_runs {s : State} (h : s.Quiet 8) (op2 : Byte) :
    ∃ c, (runSecondary op2 s).RunsSecondary s c (secondaryTable op2).flags ∧
      8 + c = (secondaryTable op2).ticks ∧ 8 + c = (secondaryTable op2).notTaken := by
  have hz := operandTicks_cbOperand (k := op2.toNat % 8) (by omega)
  have hone : 8 + operandTicks (cbOperand (op2.toNat % 8)) = if decide (op2.toNat % 8 = 6) then 12 else 8 := by
    rw [hz]
    split <;> simp_all
  have htwo : 8 + (operandTicks (cbOperand (op2.toNat % 8)) + operandTicks (cbOperand (op2.toNat % 8))) =
      if decide (op2.toNat % 8 = 6) then 16 else 8 := by
    rw [hz]
    split <;> simp_all
  have hx : op2.toNat / 64 = 0 ∨ op2.toNat / 64 = 1 ∨ op2.toNat / 64 = 2 ∨ op2.toNat / 64 = 3 := by omega
  obtain hx | hx | hx | hx := hx <;> simp only [runSecondary, secondaryTable, hx]
  · have hy : op2.toNat / 8 % 8 = op2.toNat / 8 := by omega
    have hrow := rotRow_cbRotOp (k := op2.toNat / 8) (by omega)
    rw [hy, ← hrow]
    exact ⟨_, rotOperand_runs h _ _, htwo, htwo⟩
  · exact ⟨_, bitOperand_runs h _ _, hone, hone⟩
  · exact ⟨_, resOperand_runs h _ _, htwo, htwo⟩
  · exact ⟨_, setOperand_runs h _ _, htwo, htwo⟩

/-- Settles O34: the secondary map by its fields, and what they do in quiet time. -/
theorem prefixForwardsToSecondary : Obligations.PrefixForwardsToSecondary := by
  intro op2 s
  refine ⟨(congrFun (exec_decodeSecondary op2) s).symm, fun h => ?_⟩
  obtain ⟨c, ⟨t, f, ht, hp, hpc, -⟩, -⟩ := runSecondary_runs h op2
  exact ⟨_, ht, hp.broken.trans h.live, hpc.pc, hpc.sp, hp.pendingTicks⟩

end Sys2Proof.Machine

namespace Sys2Proof.Machine

open Sys2Proof.Forms

/-! ### The primary table -/

/-- IME after the instruction of an opcode that is none of HALT, STOP and EI: DI clears it and RETI sets it. -/
def imeAfter (b0 : Byte) (ime : Bool) : Bool :=
  if b0 = 0xF3#8 then false else if b0 = 0xD9#8 then true else ime

/-- An opcode that is none of HALT, STOP, EI and the illegal ones: its instruction ends, and schedules nothing. -/
def plainOpcode (b0 : Byte) : Bool :=
  b0 != 0x76#8 && b0 != 0x10#8 && b0 != 0xFB#8 && illegalForms.all (fun f => b0 != f.2)

/-- An instruction of the primary table, with first byte b0, runs to its end in quiet time as its row says. -/
def RowRuns (s : State) (b0 : Byte) (i : Instr) : Prop :=
  ∃ n, Result.Runs s n (imeAfter b0) (tableRow b0 0x00#8).flags (exec i s) ∧
    4 * (tableRow b0 0x00#8).length + n = rowTicks b0 0x00#8 s.flags

section
variable {s : State} {b0 : Byte} {i : Instr} {n : Nat}

/-- A row with one number of ticks. -/
theorem RowRuns.always
    (h : Result.Runs s n (imeAfter b0) (tableRow b0 0x00#8).flags (exec i s))
    (htaken : 4 * (tableRow b0 0x00#8).length + n = (tableRow b0 0x00#8).ticks := by rfl)
    (hnot : 4 * (tableRow b0 0x00#8).length + n = (tableRow b0 0x00#8).notTaken := by rfl) : RowRuns s b0 i := by
  refine ⟨n, h, ?_⟩
  unfold rowTicks
  split <;> assumption

/-- A conditional row. -/
theorem RowRuns.conditional {cc : Cond} {a b : Nat}
    (h : Result.Runs s (if s.flags.holds cc then a else b) (imeAfter b0) (tableRow b0 0x00#8).flags
      (exec i s))
    (hcc : condition b0 s.flags = s.flags.holds cc := by rfl)
    (htaken : 4 * (tableRow b0 0x00#8).length + a = (tableRow b0 0x00#8).ticks := by rfl)
    (hnot : 4 * (tableRow b0 0x00#8).length + b = (tableRow b0 0x00#8).notTaken := by rfl) : RowRuns s b0 i := by
  refine ⟨_, h, ?_⟩
  rw [rowTicks, hcc]
  split <;> assumption

end

/-- Every instruction of the primary table but HALT, STOP, EI and the illegal ones, by its meaning. -/
theorem exec_rowRuns {s : State} (h : s.Quiet 8) {i : Instr} {b0 : Byte} {bs : List Byte} (hb : encode i = b0 :: bs)
    (hp : plainOpcode b0 = true) (hcb : b0 ≠ 0xCB#8) : RowRuns s b0 i := by
  cases i
  all_goals obtain ⟨rfl, -⟩ := List.cons.inj hb
  case halt | stop | ei | illegalD3 | illegalDB | illegalDD | illegalE3 | illegalE4 | illegalEB | illegalEC | illegalED
      | illegalF4 | illegalFC | illegalFD =>
    exact absurd hp Bool.false_ne_true
  -- NOP, DI, JP HL and the loads of a register or pair: nothing is accrued
  case nop | di | jpHl | ldBcN16 | ldDeN16 | ldHlN16 | ldSpN16
      | ldBN8 | ldCN8 | ldDN8 | ldEN8 | ldHN8 | ldLN8 | ldAN8
      | ldBB | ldBC | ldBD | ldBE | ldBH | ldBL | ldBA | ldCB | ldCC | ldCD | ldCE | ldCH | ldCL | ldCA
      | ldDB | ldDC | ldDD | ldDE | ldDH | ldDL | ldDA | ldEB | ldEC | ldED | ldEE | ldEH | ldEL | ldEA
      | ldHB | ldHC | ldHD | ldHE | ldHH | ldHL | ldHA | ldLB | ldLC | ldLD | ldLE | ldLH | ldLL | ldLA
      | ldAB | ldAC | ldAD | ldAE | ldAH | ldAL | ldAA =>
    exact .always (.noAccess (keepAll_fits _) _ 0)
  -- one internal cycle
  case incBc | incDe | incHl | incSp | decBc | decDe | decHl | decSp | ldSpHl | jpN16 | jrE8 =>
    exact .always (.noAccess (keepAll_fits _) _ 4)
  case jpNzN16 | jpZN16 | jpNcN16 | jpCN16 => exact .conditional (jumpIf_runs _ _)
  case jrNzE8 | jrZE8 | jrNcE8 | jrCE8 => exact .conditional (jumpRelIf_runs _ _)
  case addHlBc | addHlDe | addHlHl | addHlSp => exact .always (.noAccess (add16_fits _ _ _) _ 4)
  case addSpE8 => exact .always (.noAccess rfl _ 8)
  case ldHlSpE8 => exact .always (.noAccess rfl _ 4)
  -- 8-bit arithmetic and rotates of the accumulator
  case incB | incC | incD | incE | incH | incL | incA => exact .always (.noAccess (inc8_fits _ _) _ 0)
  case decB | decC | decD | decE | decH | decL | decA => exact .always (.noAccess (dec8_fits _ _) _ 0)
  case rlca | rrca | rla | rra => exact .always (.noAccess rfl _ 0)
  case daa => exact .always (.noAccess (daa8_fits _ _) _ 0)
  case cpl => exact .always (.noAccess (complemented_fits _) _ 0)
  case scf => exact .always (.noAccess (carrySet_fits _) _ 0)
  case ccf => exact .always (.noAccess (carryFlipped_fits _) _ 0)
  case incAtHl => exact .always (incHl_runs h)
  case decAtHl => exact .always (decHl_runs h)
  case addAB | addAC | addAD | addAE | addAH | addAL | addAA | addAN8
      | adcAB | adcAC | adcAD | adcAE | adcAH | adcAL | adcAA | adcAN8
      | subAB | subAC | subAD | subAE | subAH | subAL | subAA | subAN8
      | sbcAB | sbcAC | sbcAD | sbcAE | sbcAH | sbcAL | sbcAA | sbcAN8
      | andAB | andAC | andAD | andAE | andAH | andAL | andAA | andAN8
      | xorAB | xorAC | xorAD | xorAE | xorAH | xorAL | xorAA | xorAN8
      | orAB | orAC | orAD | orAE | orAH | orAL | orAA | orAN8
      | cpAB | cpAC | cpAD | cpAE | cpAH | cpAL | cpAA | cpAN8 =>
    exact .always (accumulate_runs _ _)
  case addAAtHl | adcAAtHl | subAAtHl | sbcAAtHl | andAAtHl | xorAAtHl | orAAtHl | cpAAtHl =>
    exact .always (aluHl_runs h _)
  -- loads and stores
  case ldBAtHl | ldCAtHl | ldDAtHl | ldEAtHl | ldHAtHl | ldLAtHl | ldAAtHl => exact .always (loadHl_runs h _)
  case ldAAtBc | ldAAtDe | ldAAtN16 | ldhAAtN8 | ldhAAtC => exact .always (loadAcc_runs h _)
  case ldAtHlB | ldAtHlC | ldAtHlD | ldAtHlE | ldAtHlH | ldAtHlL | ldAtHlA | ldAtHlN8 | ldAtBcA | ldAtDeA | ldAtN16A
      | ldhAtN8A | ldhAtCA =>
    exact .always (store_runs h _ _)
  case ldAAtHlInc | ldAAtHlDec => exact .always (loadAccStep_runs h _)
  case ldAtHlIncA | ldAtHlDecA => exact .always (storeAccStep_runs h _)
  case ldAtN16Sp => exact .always (storeSp_runs h _)
  -- the stack
  case pushBc | pushDe | pushHl | pushAf => exact .always (pushPair_runs h _)
  case popBc | popDe | popHl => exact .always (popPair_runs h _ (by decide))
  case popAf => exact .always (popAf_runs h)
  case callN16 | rst00 | rst08 | rst10 | rst18 | rst20 | rst28 | rst30 | rst38 =>
    exact .always (call_runs h _)
  case callNzN16 | callZN16 | callNcN16 | callCN16 => exact .conditional (callIf_runs h _ _)
  case ret => exact .always (ret_runs h)
  case retNz | retZ | retNc | retC => exact .conditional (retIf_runs h _)
  case reti => exact .always (returnFromInterrupt_runs h)
  -- PREFIX CB and the secondary table
  all_goals exact absurd rfl hcb

/-! ### Every row of the opcode table -/

theorem plainOpcode_iff {b0 : Byte} : plainOpcode b0 = true ↔
    b0 ≠ 0x76#8 ∧ b0 ≠ 0x10#8 ∧ b0 ≠ 0xFB#8 ∧ ∀ f ∈ illegalForms, b0 ≠ f.2 := by
  simp [plainOpcode, and_assoc]

/-- A row of the primary table is found by the first byte alone. -/
theorem tableRow_primary {b0 : Byte} (h : b0 ≠ 0xCB#8) (b1 : Byte) : tableRow b0 b1 = tableRow b0 0x00#8 := by
  simp only [tableRow, if_neg h]

theorem instrLength_eq_row (b0 b1 : Byte) : instrLength b0 = (tableRow b0 b1).length := by
  by_cases h : b0 = 0xCB#8
  · have secondary : ∀ op2, instrLength 0xCB#8 = (secondaryTable op2).length := by decide
    exact h ▸ secondary b1
  · rw [tableRow_primary h]
    revert b0
    decide

theorem rowTicks_le (b0 b1 : Byte) (f : Flags) : rowTicks b0 b1 f ≤ 24 := by
  have hrow : (tableRow b0 b1).ticks ≤ 24 ∧ (tableRow b0 b1).notTaken ≤ 24 := by
    by_cases h : b0 = 0xCB#8
    · have secondary : ∀ op2, (secondaryTable op2).ticks ≤ 24 ∧ (secondaryTable op2).notTaken ≤ 24 := by decide
      exact h ▸ secondary b1
    · rw [tableRow_primary h]
      revert b0
      decide
  unfold rowTicks
  split
  · exact hrow.1
  · exact hrow.2

theorem Result.RunsSecondary.runs {s : State} {c : Nat} {row : FlagRow} {r : Result} (h : r.RunsSecondary s c row) :
    r.Runs s c id row := by
  obtain ⟨t, f, hr, hp, -, hf⟩ := h
  refine ⟨t, t.regs, f, c, 0, ?_, hp, rfl, hf⟩
  rw [hr, State.setFlags, ← hp.pendingTicks, ← hp.ime]
  rfl

/-- The instruction of each plain opcode runs to its end in quiet time, as its row says (rules R340, R341). -/
theorem decodeBytes_runs {s : State} (h : s.Quiet 8) {b0 : Byte} (hp : plainOpcode b0 = true) (b1 b2 : Byte) :
    ∃ n, Result.Runs s n (imeAfter b0) (tableRow b0 b1).flags (exec (decodeBytes b0 b1 b2) s) ∧
      4 * (tableRow b0 b1).length + n = rowTicks b0 b1 s.flags := by
  by_cases hcb : b0 = 0xCB#8
  · subst hcb
    obtain ⟨c, hc, htaken, hnot⟩ := runSecondary_runs h b1
    refine ⟨c, (congrFun (exec_decodeSecondary b1) s).symm ▸ hc.runs, ?_⟩
    rw [← instrLength_eq_row, rowTicks]
    split
    · exact htaken
    · exact hnot
  · obtain ⟨n, hn, hticks⟩ := exec_rowRuns h (encode_decodeBytes_cons b0 b1 b2) hp hcb
    rw [← tableRow_primary hcb b1] at hn hticks
    refine ⟨n, hn, hticks.trans ?_⟩
    rw [rowTicks, rowTicks, tableRow_primary hcb b1]

/-- Settles O41: EI by what it schedules, every other row by `decodeBytes_runs`. -/
theorem opcodeTableConformance : Obligations.OpcodeTableConformance := by
  intro b0 b1 b2 s h hroom hhalt hstop hillegal
  by_cases hei : b0 = 0xFB#8
  · subst hei
    have hexec : exec (decodeBytes 0xFB#8 b1 b2) s = .next _ :=
      congrArg Host.Outcome.next (State.addEventRelative_of_room hroom .enableInterrupts 4 .enableIme)
    refine ⟨_, hexec, h.live, instrLength_eq_row _ _, ?_, keepAll_fits s.flags⟩
    unfold rowTicks
    split <;> rfl
  · obtain ⟨n, ⟨u, g, f, c, p, ht, hu, hn, hf⟩, hticks⟩ :=
      decodeBytes_runs h (plainOpcode_iff.2 ⟨hhalt, hstop, hei, hillegal⟩) b1 b2
    refine ⟨_, ht, hu.broken.trans h.live, instrLength_eq_row _ _, ?_, hf⟩
    have hclock := hu.currentTick
    simp only
    omega

end Sys2Proof.Machine

namespace Sys2Proof.Machine

open Sys2Proof.Forms

/-! ### The end of a quiet step -/

/-- The state after its pending ticks are charged in quiet time (rule R312). -/
def State.chargePending (s : State) : State :=
  { s with currentTick := s.currentTick + s.pendingTicks, ticksThisCall := s.ticksThisCall + s.pendingTicks,
           pendingTicks := 0 }

theorem completeStep_quiet {s : State} {m : Nat} (h : s.Quiet (m + s.pendingTicks)) :
    completeStep (.next s) = interruptCheck s.chargePending := by
  rw [completeStep_live h.live]
  refine chargePendingThen_live ?_ _
  obtain hp | hp := Nat.eq_zero_or_pos s.pendingTicks
  · refine .inl ⟨hp, ?_⟩
    simp only [State.chargePending, hp, Nat.add_zero]
    rw [← hp]
  · refine .inr ⟨hp, h.tick_live, ?_⟩
    rw [h.tick]
    rfl

/-- What a quiet step of a plain opcode comes to before its interrupt check: u is the state after the body. -/
structure State.BodyEnds (s : State) (m : Nat) (u : State) : Prop where
  body : exec (streamInstr s) (fetched s (instrLength (s.peek s.regs.pc))) = .next u
  step : step s = interruptCheck u.chargePending
  quiet : u.chargePending.Quiet m
  ime : u.ime = imeAfter (s.peek s.regs.pc) s.ime
  memory : Memory.wf s.env.mem → Memory.wf u.env.mem
  ticksThisCall : u.chargePending.ticksThisCall =
    rowTicks (s.peek s.regs.pc) (s.peek (s.regs.pc + opcodeAdvance s)) s.flags
  currentTick : u.chargePending.currentTick = s.currentTick + u.chargePending.ticksThisCall

theorem State.Quiet.bodyEnds {s : State} {m : Nat} (h : s.Quiet (m + 24)) (hp : plainOpcode (s.peek s.regs.pc) = true) :
    ∃ u, s.BodyEnds m u := by
  have hlen : instrLength (s.peek s.regs.pc) ≤ 3 := by
    obtain h | h | h := instrLength_cases (s.peek s.regs.pc) <;> omega
  obtain ⟨n, ⟨u, g, f, c, p, ht, hu, hn, -⟩, hticks⟩ :=
    decodeBytes_runs (fetched_quiet (h.mono (by omega)) : (fetched s (instrLength (s.peek s.regs.pc))).Quiet 8) hp
      (s.peek (s.regs.pc + opcodeAdvance s)) (s.peek (s.regs.pc + opcodeAdvance s + 1))
  change _ = rowTicks _ _ s.flags at hticks
  rw [← instrLength_eq_row] at hticks
  have hle := rowTicks_le (s.peek s.regs.pc) (s.peek (s.regs.pc + opcodeAdvance s)) s.flags
  have hq : u.Quiet (m + p) := State.Quiet.after (fetched_quiet (h.mono (by omega))) hu
  have hclock : u.currentTick = s.currentTick + 4 * instrLength (s.peek s.regs.pc) + c := hu.currentTick
  have hcall : u.ticksThisCall = 4 * instrLength (s.peek s.regs.pc) + c := hu.ticksThisCall
  refine ⟨_, ht, ?_, ⟨hq.live, hq.noReads, hq.noWrites, fun e he => ?_⟩, rfl, hu.memory, ?_, ?_⟩
  · rw [step_quiet (h.mono (by omega))]
    refine (congrArg completeStep ht).trans
      (completeStep_quiet (m := m) ⟨hq.live, hq.noReads, hq.noWrites, fun e he => ?_⟩)
    have := hq.notDue e he
    simp only [fetched]
    omega
  · have := hq.notDue e he
    simp only [State.chargePending, fetched]
    omega
  · simp only [State.chargePending, fetched]
    omega
  · simp only [State.chargePending, fetched]
    omega

theorem fetched_of_noHaltBug {s : State} {n : Nat} (hb : s.haltBug = false) (hn : 0 < n) :
    fetched s n = { s with
      regs := { s.regs with pc := s.regs.pc + BitVec.ofNat 16 n }
      pendingTicks := 0, fetchAddr := s.regs.pc, currentTick := s.currentTick + 4 * n, ticksThisCall := 4 * n
      env := { s.env with log := fetchReads s n ++ s.env.log } } := by
  rw [← fetched_regs hb hn]
  simp only [fetched, hb]

/-- Settles O54: with IME clear, and no RETI to set it, the check at the step's end finds nothing to do. -/
theorem quietStepWithoutInterrupt : Obligations.QuietStepWithoutInterrupt := by
  intro s i rest h hime hbug _ hd hop hillegal
  simp only [List.mem_cons, List.not_mem_nil, or_false, not_or] at hop
  obtain ⟨hhalt, hstop, hei, hreti⟩ := hop
  have hp : plainOpcode (s.peek s.regs.pc) = true := plainOpcode_iff.2 ⟨hhalt, hstop, hei, hillegal⟩
  obtain ⟨u, hu⟩ := (h.mono (by decide) : s.Quiet (0 + 24)).bodyEnds hp
  rw [← stream_of_noHaltBug hbug, decode_stream] at hd
  cases hd
  have himeAfter : u.ime = false := by
    rw [hu.ime, imeAfter, hime, if_neg hreti, ite_self]
  have hnext : opcodeAdvance s = 1 := by simp [opcodeAdvance, hbug]
  have hticks := hu.ticksThisCall
  rw [hnext] at hticks
  have hlen : (encode (streamInstr s)).length = instrLength (s.peek s.regs.pc) := length_encode_decodeBytes _ _ _
  refine ⟨fetchReads s (encode (streamInstr s)).length ++ s.env.log, u, u.chargePending, ?_, ?_, rfl, rfl, rfl, rfl,
    himeAfter, rfl, hu.quiet.live, ?_, hticks⟩
  · rw [← fetched_of_noHaltBug hbug (hlen ▸ instrLength_pos _), hlen]
    exact hu.body
  · rw [hu.step, interruptCheck, State.interruptReady, show u.chargePending.ime = false from himeAfter]
    rfl
  · rw [hu.currentTick, hticks]

/-! ### Dispatch in quiet time -/

theorem selectSource_eq_leastSource (s : State) : s.selectSource = leastSource s.ie s.ifr := by
  have hrange : List.range 5 = [0, 1, 2, 3, 4] := by decide
  simp only [State.selectSource, leastSource, hrange, BitVec.getLsbD_and, Bool.and_comm]

/-- A selected source is one of the five, requested and enabled: an interrupt is available (rules R123, R1020). -/
theorem State.interruptAvailable_of_selected {s : State} {k : Nat} (h : s.selectSource = some k) :
    s.interruptAvailable = true := by
  have hbit : (s.ifr &&& s.ie).getLsbD k = true := List.find?_some h
  have five : ∀ k ∈ [0, 1, 2, 3, 4], (0x1F#8).getLsbD k = true := by decide
  have hk := five k (List.mem_of_find?_eq_some h)
  rw [State.interruptAvailable, bne_iff_ne]
  intro hzero
  have hfalse : (s.ifr &&& s.ie &&& 0x1F#8).getLsbD k = false := by
    rw [show s.ifr &&& s.ie &&& 0x1F#8 = 0x00#8 from hzero]
    simp
  rw [BitVec.getLsbD_and, hbit, hk] at hfalse
  exact absurd hfalse (by decide)

theorem State.selectAndClear_of_selected {s : State} {k : Nat} (h : s.selectSource = some k) :
    s.selectAndClear = (sourceVector k, { s with ifr := s.ifr &&& ~~~ sourceBit k }) := by
  simp [State.selectAndClear, h]

/-- The state c ticks after s, when sp, the environment's memory and the log have come to the ones given. -/
def State.during (s : State) (c : Nat) (sp : Word) (m : Memory) (log : List Observation) : State :=
  { s with
    regs := { s.regs with sp := sp }
    currentTick := s.currentTick + c
    ticksThisCall := s.ticksThisCall + c
    env := { s.env with mem := m, log := log } }

section
variable {s : State} {n c d : Nat} (h : s.Quiet n) {sp : Word} {m : Memory} {log : List Observation}
include h

theorem State.Quiet.during (hc : d + c ≤ n) : (s.during c sp m log).Quiet d :=
  ⟨h.live, h.noReads, h.noWrites, fun e he => by
    have := h.notDue e he
    simp only [State.during]
    omega⟩

theorem tickThen_during (hc : d + c ≤ n) (k : State → Result) :
    tickThen d k (s.during c sp m log) = k (s.during (c + d) sp m log) := by
  rw [tickThen_quiet (m := 0) (h.during (by omega))]
  simp only [State.during, Nat.add_assoc]

/-- A push at an environment address goes into the environment's memory (rules R211, R230). -/
theorem push8Then_during (hc : 4 + c ≤ n) (hx : coreOwned (sp - 1) = false) (v : Byte) (k : State → Result) :
    push8Then v k (s.during c sp m log) =
      k (s.during (c + 4) (sp - 1) (m.write (sp - 1).toNat v)
        (.write (s.currentTick + (c + 4)) (sp - 1) v :: log)) := by
  obtain ⟨hif, hie⟩ := coreOwned_eq_false.1 hx
  have hq : ((s.during c sp m log).setSp (sp - 1)).Quiet (0 + 4) := (h.during (by omega)).setSp _
  have hw := writeThen_quiet hq (sp - 1) v k
  rw [hq.memWrite] at hw
  refine hw.trans ?_
  simp only [hx, hif, hie, if_false, Bool.false_eq_true]
  simp only [State.during, State.setSp, Nat.add_assoc]

end

/-- The end of a dispatch, from its second push on (rule R1030). -/
def finishDispatch (ret vector : Word) (s : State) : Result :=
  push8Then ret.lo (tickThen 4 (fun t => .next (t.setPc vector))) { s with ime := false }

/-- A dispatch from its selection on (rules R1030, R1033). -/
def selectAndFinish (ret : Word) (s : State) : Result :=
  tickThen 2 (finishDispatch ret s.selectAndClear.1) s.selectAndClear.2

theorem dispatchInterrupt_eq (s : State) :
    dispatchInterrupt false s =
      tickThen 4 (push8Then s.regs.pc.hi (tickThen 2 (selectAndFinish s.regs.pc)))
        (s.during 0 s.regs.sp s.env.mem s.env.log) := rfl

theorem finishDispatch_during {s : State} {n c : Nat} (h : s.Quiet n) (hc : 8 + c ≤ n) {sp : Word}
    (hx : coreOwned (sp - 1) = false) (ret vector : Word) (m : Memory) (log : List Observation) :
    finishDispatch ret vector (s.during c sp m log) = .next
      ((({ s with ime := false } : State).during (c + 8) (sp - 1) (m.write (sp - 1).toNat ret.lo)
        (.write (s.currentTick + (c + 4)) (sp - 1) ret.lo :: log)).setPc vector) := by
  have hq : ({ s with ime := false } : State).Quiet n := ⟨h.live, h.noReads, h.noWrites, h.notDue⟩
  calc finishDispatch ret vector (s.during c sp m log)
      = push8Then ret.lo (tickThen 4 (fun t => .next (t.setPc vector)))
          (({ s with ime := false } : State).during c sp m log) := rfl
    _ = _ := by rw [push8Then_during hq (by omega) hx, tickThen_during hq (by omega)]

theorem selectAndFinish_during {s : State} {n c k : Nat} (h : s.Quiet n) (hc : 10 + c ≤ n) {sp : Word}
    (hx : coreOwned (sp - 1) = false) (hk : s.selectSource = some k) (ret : Word) (m : Memory)
    (log : List Observation) :
    selectAndFinish ret (s.during c sp m log) = .next
      ((({ s with ifr := s.ifr &&& ~~~ sourceBit k, ime := false } : State).during (c + 10) (sp - 1)
        (m.write (sp - 1).toNat ret.lo) (.write (s.currentTick + (c + 6)) (sp - 1) ret.lo :: log)).setPc
          (sourceVector k)) := by
  have hq : ({ s with ifr := s.ifr &&& ~~~ sourceBit k } : State).Quiet n :=
    ⟨h.live, h.noReads, h.noWrites, h.notDue⟩
  have hselected : (s.during c sp m log).selectAndClear =
      (sourceVector k, ({ s with ifr := s.ifr &&& ~~~ sourceBit k } : State).during c sp m log) :=
    State.selectAndClear_of_selected (s := s.during c sp m log) hk
  rw [selectAndFinish, hselected, tickThen_during hq (by omega), finishDispatch_during hq (by omega) hx]

/-- A dispatch in quiet time whose two pushes go to environment addresses (rules R1030, R1033). -/
theorem dispatchInterrupt_quiet {s : State} (h : s.Quiet 20) (hhi : coreOwned (s.regs.sp - 1) = false)
    (hlo : coreOwned (s.regs.sp - 2) = false) {k : Nat} (hk : s.selectSource = some k) :
    dispatchInterrupt false s = .next
      ((({ s with ifr := s.ifr &&& ~~~ sourceBit k, ime := false } : State).during 20 (s.regs.sp - 2)
        ((s.env.mem.write (s.regs.sp - 1).toNat s.regs.pc.hi).write (s.regs.sp - 2).toNat s.regs.pc.lo)
        (.write (s.currentTick + 16) (s.regs.sp - 2) s.regs.pc.lo ::
          .write (s.currentTick + 8) (s.regs.sp - 1) s.regs.pc.hi :: s.env.log)).setPc (sourceVector k)) := by
  have hsp : s.regs.sp - 1 - 1 = s.regs.sp - 2 := by bv_omega
  rw [dispatchInterrupt_eq, tickThen_during h (by decide), push8Then_during h (by decide) hhi,
    tickThen_during h (by decide), selectAndFinish_during h (by decide) (hsp ▸ hlo) hk, hsp]

/-- Settles O53: the interrupt check after the body, and the dispatch in quiet time. -/
theorem interruptIsTakenAtTheStepEnd : Obligations.InterruptIsTakenAtTheStepEnd := by
  intro s i rest h hi hd
  refine ⟨fun u v hu hlive hv hime hready => ?_, fun h48 hm hop hillegal => ?_⟩
  · rw [quietStepRunsBytesAtPc s i rest h hi hd, hu]
    obtain ⟨-, hcheck, -⟩ := completeStepChargesAndChecks u
    obtain ⟨htaken, -⟩ := hcheck v hv hlive
    exact htaken ⟨hime, hready⟩
  · simp only [List.mem_cons, List.not_mem_nil, or_false, not_or] at hop
    obtain ⟨hhalt, hstop, hei⟩ := hop
    have hp : plainOpcode (s.peek s.regs.pc) = true := plainOpcode_iff.2 ⟨hhalt, hstop, hei, hillegal⟩
    obtain ⟨u, hu⟩ := State.Quiet.bodyEnds (m := 24) h48 hp
    rw [decode_stream] at hd
    cases hd
    refine ⟨u, (length_encode_decodeBytes _ _ _).symm ▸ hu.body, fun k hime hk hhi hlo => ?_⟩
    have hselected : u.chargePending.selectSource = some k := (selectSource_eq_leastSource _).trans hk
    have hready : u.chargePending.interruptReady = true := by
      rw [State.interruptReady, State.interruptAvailable_of_selected hselected, Bool.and_true]
      exact hime
    have hstep : step s = dispatchInterrupt false u.chargePending := hu.step.trans (if_pos hready)
    have hdispatch := dispatchInterrupt_quiet (hu.quiet.mono (by decide)) hhi hlo hselected
    have hne : u.regs.sp - 1 ≠ u.regs.sp - 2 := by bv_omega
    have hfirst := Memory.wf_write u.regs.pc.hi (u.regs.sp - 1).isLt (hu.memory hm)
    refine ⟨_, hstep.trans hdispatch, rfl, rfl, rfl, rfl, rfl, ?_, ?_, fun x hx hxhi hxlo => ?_, rfl, rfl,
      hu.quiet.live, congrArg (· + 20) hu.ticksThisCall, ?_⟩
    · rw [peek_env hhi]
      exact (Memory.read_write_ne _ _ (BitVec.toNat_ne.1 hne)).trans (Memory.read_write_same _ _ _ (hu.memory hm))
    · rw [peek_env hlo]
      exact Memory.read_write_same _ _ _ hfirst
    · rw [peek_env hx, peek_env hx]
      exact (Memory.read_write_ne _ _ (BitVec.toNat_ne.1 hxlo)).trans
        (Memory.read_write_ne _ _ (BitVec.toNat_ne.1 hxhi))
    · exact (congrArg (· + 20) hu.currentTick).trans (Nat.add_assoc _ _ _)

end Sys2Proof.Machine

/-! ## 8-bit arithmetic and logic: the accumulator operations, INC and DEC, DAA, CPL, SCF and CCF -/

namespace Sys2Proof.Machine

open Sys2Proof.Forms

/-! ### The results of 8-bit arithmetic -/

section
variable (x y : Byte) (f : Flags)

theorem beq_zero_eq_toNat (v : Byte) : (v == 0x00#8) = decide (v.toNat = 0) :=
  decide_eq_decide.2 BitVec.toNat_inj.symm

theorem add8_eq_sum (cin : Bool) : add8 x y cin =
    { value := BitVec.ofNat 8 ((x.toNat + y.toNat + cin.toNat) % 256),
      flags := sumFlags x.toNat y.toNat cin.toNat } := by
  have hvalue : BitVec.ofNat 8 ((x.toNat + y.toNat + cin.toNat) % 256) =
      BitVec.ofNat 8 (x.toNat + y.toNat + cin.toNat) := BitVec.eq_of_toNat_eq (by simp)
  rw [hvalue]
  rfl

/-- A borrow is a negative exact difference (rule R401). -/
theorem sub8_eq_difference (cin : Bool) : sub8 x y cin =
    { value := BitVec.ofNat 8 (((x.toNat : Int) - y.toNat - cin.toNat) % 256).toNat,
      flags := differenceFlags x.toNat y.toNat cin.toNat } := by
  have hvalue : (BitVec.ofInt 8 ((x.toNat : Int) - y.toNat - cin.toNat)).toNat =
      (((x.toNat : Int) - y.toNat - cin.toNat) % 256).toNat := BitVec.toNat_ofInt _
  rw [← hvalue, BitVec.ofNat_toNat, BitVec.setWidth_eq]
  simp only [sub8, differenceFlags, lowNibble, beq_zero_eq_toNat, hvalue, Alu8.mk.injEq, Flags.mk.injEq,
    decide_eq_decide, true_and]
  exact ⟨by omega, decide_eq_decide.2 (by omega), by omega⟩

theorem inc8_eq : inc8 x f =
    { value := BitVec.ofNat 8 (x.toNat + 1),
      flags := { z := decide ((x.toNat + 1) % 256 = 0), n := false, h := decide (x.toNat % 16 = 15), c := f.c } } := by
  have hvalue : x + 1 = BitVec.ofNat 8 (x.toNat + 1) := BitVec.eq_of_toNat_eq (by simp)
  rw [inc8, hvalue, beq_zero_eq_toNat, BitVec.toNat_ofNat]
  rfl

theorem dec8_eq : dec8 x f =
    { value := BitVec.ofNat 8 (x.toNat + 255),
      flags := { z := decide (x.toNat = 1), n := true, h := decide (x.toNat % 16 = 0), c := f.c } } := by
  have hvalue : x - 1 = BitVec.ofNat 8 (x.toNat + 255) := BitVec.eq_of_toNat_eq (by simp; omega)
  have hz : (BitVec.ofNat 8 (x.toNat + 255) == 0x00#8) = decide (x.toNat = 1) := by
    rw [beq_zero_eq_toNat, BitVec.toNat_ofNat, decide_eq_decide]
    omega
  rw [dec8, hvalue, hz]
  rfl

/-- DAA adds or subtracts its correction as a number, whatever the two tests of its table say (rule R450). -/
theorem daa8_value (n high low : Bool) :
    let adj : Byte := (if high then 0x60#8 else 0x00#8) + (if low then 0x06#8 else 0x00#8)
    let k := (if high then 0x60 else 0) + (if low then 0x06 else 0)
    (if n then x - adj else x + adj).toNat = if n then (x.toNat + 256 - k) % 256 else (x.toNat + k) % 256 := by
  cases n <;> cases high <;> cases low <;> simp <;> omega

/-- DAA as the rule's pseudocode has it (rule R450). -/
theorem daa8_eq :
    let high := f.c ∨ (f.n = false ∧ x.toNat > 0x99)
    let low := f.h ∨ (f.n = false ∧ x.toNat % 16 > 9)
    let adj := (if high then 0x60 else 0) + (if low then 0x06 else 0)
    let res := if f.n then (x.toNat + 256 - adj) % 256 else (x.toNat + adj) % 256
    daa8 x f = { value := BitVec.ofNat 8 res,
                 flags := { z := decide (res = 0), n := f.n, h := false, c := decide high } } := by
  intro high low adj res
  have hhigh : (f.c || (!f.n && decide (0x99 < x.toNat))) = decide high := by simp [high]
  have hlow : (f.h || (!f.n && decide (9 < lowNibble x))) = decide low := by
    rw [lowNibble]
    simp [low]
  have hvalue := daa8_value x f.n (decide high) (decide low)
  simp only [decide_eq_true_eq] at hvalue
  simp only [daa8, hhigh, hlow, beq_zero_eq_toNat, decide_eq_true_eq, hvalue, Alu8.mk.injEq, Flags.mk.injEq, and_true]
  exact ⟨(BitVec.toNat_eq_nat.1 hvalue).2, rfl⟩

end

/-! ### The forms and their meanings -/

/-- The forms of an accumulator operation with their source. -/
def aluForms (n8 : Byte) : AluOp → List (Instr × Source)
  | .add => addForms n8
  | .adc => adcForms n8
  | .sub => subForms n8
  | .sbc => sbcForms n8
  | .and => andForms n8
  | .xor => xorForms n8
  | .or => orForms n8
  | .cp => cpForms n8

/-- The meaning of an accumulator operation on its source. -/
def aluSource (op : AluOp) : Source → State → Result
  | .reg r => aluReg op r
  | .atHl => aluHl op
  | .imm v => aluImm op v

theorem aluForms_exec (op : AluOp) (n8 : Byte) : ∀ f ∈ aluForms n8 op, exec f.1 = aluSource op f.2 := by
  cases op <;>
    simp only [aluForms, addForms, adcForms, subForms, sbcForms, andForms, xorForms, orForms, cpForms,
      List.forall_mem_cons, List.not_mem_nil, false_implies, implies_true, and_true] <;>
    and_intros <;> rfl

/-! ### The accumulator operations -/

section
variable {s : State} {n8 : Byte} {f : Instr × Source} {op : AluOp}

@[simp] theorem Source.read_regs (s : State) (src : Source) : (src.read s).2.regs = s.regs := by
  cases src <;> simp [Source.read]

@[simp] theorem Source.read_flags (s : State) (src : Source) : (src.read s).2.flags = s.flags := by
  cases src <;> simp [Source.read]

theorem aluSource_live {src : Source} (h : (src.read s).2.broken = false) :
    aluSource op src s = .next ((src.read s).2.accumulate op (src.read s).1) := by
  cases src with
  | reg r => rfl
  | atHl =>
    rw [aluSource, aluHl]
    exact readThen_live h _
  | imm v => rfl

/-- A form whose source is read without a fatal condition answers the state after the read, accumulated. -/
theorem exec_aluForms (hf : f ∈ aluForms n8 op) (h : (f.2.read s).2.broken = false) :
    exec f.1 s = .next ((f.2.read s).2.accumulate op (f.2.read s).1) := by
  rw [aluForms_exec op n8 f hf, aluSource_live h]

/-- An accumulator operation other than CP writes a and the flags, and nothing else. -/
theorem exec_aluForms_result (hop : op ≠ .cp) (hf : f ∈ aluForms n8 op) (h : (f.2.read s).2.broken = false) :
    let r := alu8 op s.regs.a (f.2.read s).1 s.flags.c
    exec f.1 s = .next { (f.2.read s).2 with regs := { s.regs with a := r.value }, flags := r.flags } := by
  rw [exec_aluForms hf h, State.accumulate, if_neg hop]
  simp [State.setR8, State.setFlags, Registers.set8]

/-- CP writes the flags, and nothing else (rules R431 to R433). -/
theorem exec_cpForms_result (hf : f ∈ cpForms n8) (h : (f.2.read s).2.broken = false) :
    exec f.1 s = .next { (f.2.read s).2 with flags := (sub8 s.regs.a (f.2.read s).1 false).flags } := by
  rw [exec_aluForms (op := .cp) hf h, State.accumulate, if_pos rfl, Source.read_regs]
  rfl

end

/-- Settles O14: ADD and ADC are add8, without and with the old carry. -/
theorem addAndAdcResults : Obligations.AddAndAdcResults := by
  refine fun n8 s => ⟨fun f hf h => ?_, fun f hf h => ?_⟩
  · rw [exec_aluForms_result (op := .add) nofun hf h, alu8, add8_eq_sum]
    rfl
  · rw [exec_aluForms_result (op := .adc) nofun hf h, alu8, add8_eq_sum]

/-- Settles O15: SUB and CP are sub8 without a borrow-in and SBC with the old carry; CP does not write a. -/
theorem subSbcAndCpResults : Obligations.SubSbcAndCpResults := by
  refine fun n8 s => ⟨fun f hf h => ?_, fun f hf h => ?_, fun f hf h => ?_⟩
  · rw [exec_aluForms_result (op := .sub) nofun hf h, alu8, sub8_eq_difference]
    simp
  · rw [exec_aluForms_result (op := .sbc) nofun hf h, alu8, sub8_eq_difference]
  · rw [exec_cpForms_result hf h, sub8_eq_difference]
    rfl

/-- Settles O16: `alu8` of each operation is its bitwise result with that result's flags. -/
theorem andXorOrResults : Obligations.AndXorOrResults :=
  fun _ _ => ⟨fun _ hf h => exec_aluForms_result (op := .and) nofun hf h,
    fun _ hf h => exec_aluForms_result (op := .xor) nofun hf h,
    fun _ hf h => exec_aluForms_result (op := .or) nofun hf h⟩

/-! ### INC and DEC -/

/-- Settles O17: INC r and DEC r write the register and the flags of inc8 and dec8. -/
theorem incDecRegisterResults : Obligations.IncDecRegisterResults := by
  refine fun s => ⟨fun f hf => ?_, fun f hf => ?_⟩
  · rw [incForms_exec f hf, incReg, inc8_eq]
    rfl
  · rw [decForms_exec f hf, decReg, dec8_eq]
    rfl

/-- A read at hl, a write of the result at the same hl, then the flags of the result (rules R441, R443). -/
def modifyHl (op : Byte → Flags → Alu8) (s : State) : Result :=
  readThen s.hl (fun v t =>
    writeThen t.hl (op v t.flags).value (fun u => .next (u.setFlags (op v t.flags).flags)) t) s

theorem incHl_eq_modifyHl : incHl = modifyHl inc8 := rfl

theorem decHl_eq_modifyHl : decHl = modifyHl dec8 := rfl

/-- Where no access raises a fatal condition, the write goes to the hl of the read: the read keeps the registers. -/
theorem modifyHl_live {op : Byte → Flags → Alu8} {s t : State} {v : Byte} (hread : s.memRead (s.r16 .hl) = (v, t))
    (hlive : t.broken = false) (hwrite : (t.memWrite (s.r16 .hl) (op v s.flags).value).broken = false) :
    modifyHl op s = .next { t.memWrite (s.r16 .hl) (op v s.flags).value with
      regs := s.regs, flags := (op v s.flags).flags } := by
  have hv : (s.memRead s.hl).1 = v := congrArg Prod.fst hread
  have ht : (s.memRead s.hl).2 = t := congrArg Prod.snd hread
  have hregs : t.regs = s.regs := ht ▸ s.memRead_regs s.hl
  have hflags : t.flags = s.flags := ht ▸ s.memRead_flags s.hl
  have hhl : t.hl = s.r16 .hl := congrArg (Registers.get16 · .hl) hregs
  rw [modifyHl, readThen_live (ht ▸ hlive), hv, ht, hhl, hflags, writeThen_live hwrite, ← hregs,
    ← t.memWrite_regs (s.r16 .hl) (op v s.flags).value]
  rfl

/-- Settles O18: INC [HL] and DEC [HL] modify the byte at hl by inc8 and dec8. -/
theorem incDecMemoryResults : Obligations.IncDecMemoryResults := by
  intro s v t hread hlive up down
  have hinc := modifyHl_live (op := inc8) hread hlive
  have hdec := modifyHl_live (op := dec8) hread hlive
  have hz : decide ((v.toNat + 1) % 256 = 0) = decide (v.toNat = 255) := decide_eq_decide.2 (by omega)
  rw [inc8_eq, hz] at hinc
  rw [dec8_eq] at hdec
  exact ⟨hinc, hdec⟩

/-! ### DAA, CPL, SCF and CCF -/

/-- Settles O19: DAA by `daa8_eq`, CPL's complement is 255 - a, SCF and CCF write flags only. -/
theorem daaCplScfCcfResults : Obligations.DaaCplScfCcfResults := by
  intro s x high low adj res
  refine ⟨?_, ?_, rfl, rfl⟩
  · exact congrArg (fun r : Alu8 => (.next ((s.setR8 .a r.value).setFlags r.flags) : Result))
      (daa8_eq s.regs.a s.flags)
  · have hvalue : ~~~ s.regs.a = BitVec.ofNat 8 (255 - s.regs.a.toNat) := BitVec.eq_of_toNat_eq (by simp; omega)
    exact congrArg (fun v => (.next ((s.setR8 .a v).setFlags { s.flags with n := true, h := true }) : Result)) hvalue

end Sys2Proof.Machine

/-! ## Loads: registers, memory, the high page, [HL+] and [HL-], and what the instructions store -/

namespace Sys2Proof.Machine

open Sys2Proof.Forms

/-! ### LD r,r' and LD r,n8 -/

@[simp] theorem Registers.set8_get8 (g : Registers) (r : Reg8) : g.set8 (g.get8 r) r = g := by
  cases r <;> rfl

theorem copyForms_exec : ∀ f ∈ copyForms, exec f.1 = loadReg f.2.1 f.2.2 := by
  simp only [copyForms, List.forall_mem_cons, List.not_mem_nil, false_implies, implies_true, and_true]
  and_intros <;> rfl

theorem immForms_exec (n8 : Byte) : ∀ f ∈ immForms n8, exec f.1 = loadImm f.2 n8 := by
  simp only [immForms, List.forall_mem_cons, List.not_mem_nil, false_implies, implies_true, and_true]
  and_intros <;> rfl

/-- Settles O20: a copy of a register to itself writes the byte that stands there. -/
theorem registerLoadResults : Obligations.RegisterLoadResults := by
  intro n8 s
  refine ⟨fun f hf => ?_, fun f hf heq => ?_, fun f hf => ?_⟩
  · rw [copyForms_exec f hf]
    rfl
  · rw [copyForms_exec f hf, loadReg, State.r8, heq, State.setR8, Registers.set8_get8]
  · rw [immForms_exec n8 f hf]
    rfl

/-! ### Loads and stores of one byte -/

/-- One bus read at an address, whose byte goes to a register (rules R502, R505, R506, R509, R511, R513). -/
def loadFrom (x : Word) (r : Reg8) (s : State) : Result := readThen x (fun v t => .next (t.setR8 r v)) s

theorem loadForms_exec (n8 : Byte) (n16 : Word) (s : State) :
    ∀ f ∈ loadForms n8 n16 s, exec f.1 s = loadFrom f.2.2 f.2.1 s := by
  simp only [loadForms, ← highPage_eq_add, List.forall_mem_cons, List.not_mem_nil, false_implies, implies_true,
    and_true]
  and_intros <;> rfl

/-- Settles O21: the read keeps the registers and the flags. -/
theorem memoryLoadResults : Obligations.MemoryLoadResults := by
  intro n8 n16 s f hf h
  rw [loadForms_exec n8 n16 s f hf, loadFrom, readThen_live h]
  simp [State.setR8]

/-- Settles O22: each store is one write, which keeps the registers and the flags. -/
theorem memoryStoreResults : Obligations.MemoryStoreResults :=
  fun n8 n16 s f hf => ⟨storeForms_exec n8 n16 s f hf, s.memWrite_regs _ _, s.memWrite_flags _ _⟩

/-! ### [HL+] and [HL-] -/

/-- hl steps from its value before the access, which the read keeps. -/
theorem loadAccStep_live {s : State} (h : (s.memRead s.hl).2.broken = false) (d : Word) :
    loadAccStep d s = .next { (s.memRead s.hl).2 with
      regs := { s.regs with a := (s.memRead s.hl).1, h := (s.hl + d).hi, l := (s.hl + d).lo }, flags := s.flags } := by
  rw [loadAccStep, readThen_live h]
  simp [State.setR8, State.setR16, Registers.set8, Registers.set16]

theorem storeAccStep_live {s : State} (h : (s.memWrite s.hl s.regs.a).broken = false) (d : Word) :
    storeAccStep d s = .next { s.memWrite s.hl s.regs.a with
      regs := { s.regs with h := (s.hl + d).hi, l := (s.hl + d).lo }, flags := s.flags } := by
  rw [storeAccStep, writeThen_live h]
  simp [State.setR16, Registers.set16]

/-- Settles O23: a step down is a step by -1. -/
theorem stepLoadAndStoreResults : Obligations.StepLoadAndStoreResults := by
  intro s x r w
  have hdown : x - 1 = s.hl + -1 := BitVec.sub_eq_add_neg _ _
  rw [hdown]
  exact ⟨fun h => ⟨loadAccStep_live h 1, loadAccStep_live h (-1)⟩,
    fun h => ⟨storeAccStep_live h 1, storeAccStep_live h (-1)⟩⟩

/-! ### Storing in quiet time -/

/-- In the state an instruction answers, every address outside l shows the byte that it showed in s. -/
def Result.StoresAt (l : List Word) (s : State) (r : Result) : Prop :=
  r.Ends (fun t => ∀ x ∉ l, t.peek x = s.peek x)

section
variable {l : List Word} {s t : State} {k : Nat}

/-- An answer that shows the bytes of s, as every meaning without a bus access does. -/
theorem Result.StoresAt.unchanged (h : ∀ x, t.peek x = s.peek x) : Result.StoresAt l s (.next t) := fun x _ => h x

theorem Result.StoresAt.of_peek {r : Result} (hp : ∀ x ∉ l, t.peek x = s.peek x) (h : r.StoresAt l t) :
    r.StoresAt l s :=
  h.mono (fun _ hu x hx => (hu x hx).trans (hp x hx))

/-- A bus read in quiet time stores nothing. -/
theorem Result.StoresAt.read (h : s.Quiet (k + 4)) (x : Word) {f : Byte → State → Result}
    (hf : ∀ v t, t.Quiet k → t.regs = s.regs → (f v t).StoresAt l t) : (readThen x f s).StoresAt l s := by
  rw [readThen_quiet h]
  exact .of_peek (fun y _ => h.peek_memRead x y) (hf _ _ (h.after_memRead x) (s.memRead_regs x))

/-- A bus write in quiet time stores at its own address. -/
theorem Result.StoresAt.write (h : s.Quiet (k + 4)) {x : Word} (hx : x ∈ l) (v : Byte) {f : State → Result}
    (hf : ∀ t, t.Quiet k → (f t).StoresAt l t) : (writeThen x v f s).StoresAt l s := by
  rw [writeThen_quiet h]
  exact .of_peek (fun y hy => h.peek_memWrite_ne v (ne_of_mem_of_not_mem hx hy).symm) (hf _ (h.after_memWrite x v))

theorem Result.StoresAt.pop8 (h : s.Quiet (k + 4)) {f : Byte → State → Result}
    (hf : ∀ v t, t.Quiet k → (f v t).StoresAt l t) : (pop8Then f s).StoresAt l s :=
  .read h _ (fun v _ ht _ => .of_peek (fun _ _ => rfl) (hf v _ (ht.setSp _)))

theorem Result.StoresAt.pop16 (h : s.Quiet 8) {f : Word → State → Result} (hf : ∀ v t, (f v t).StoresAt l t) :
    (pop16Then f s).StoresAt l s :=
  .pop8 (k := 4) h (fun _ _ ht => .pop8 (k := 0) ht (fun _ t _ => hf _ t))

/-- The two addresses a push stores to (rules R230, R232). -/
def pushedAt (s : State) : List Word := [s.regs.sp - 1, s.regs.sp - 2]

theorem Result.StoresAt.push16 (h : s.Quiet 8) (v : Word) {f : State → Result}
    (hf : ∀ t, (f t).StoresAt (pushedAt s) t) : (push16Then v f s).StoresAt (pushedAt s) s := by
  have hs : (s.setSp (s.regs.sp - 1)).Quiet (4 + 4) := h.setSp _
  have hq : ((pushFirst s v).setSp (s.regs.sp - 2)).Quiet (0 + 4) := (hs.after_memWrite _ _).setSp _
  rw [push16Then_live hq.live (hq.after_memWrite _ _).live]
  refine .of_peek (fun x hx => ?_) (hf _)
  obtain ⟨hhi, hlo⟩ : x ≠ s.regs.sp - 1 ∧ x ≠ s.regs.sp - 2 := by simpa [pushedAt] using hx
  exact (hq.peek_memWrite_ne _ hlo).trans (hs.peek_memWrite_ne _ hhi)

/-- Where a secondary-table operand is written: a register is not in memory (rule R322). -/
def operandAddrs (s : State) : CbOperand → List Word
  | .reg _ => []
  | .atHl => [s.r16 .hl]

theorem operandAddrs_cbOperand (s : State) {k : Nat} (hk : k < 8) :
    operandAddrs s (cbOperand k) = if k = 6 then [s.r16 .hl] else [] := by
  interval_cases k <;> rfl

theorem Result.StoresAt.readOperand (h : s.Quiet (k + 4)) (z : CbOperand) {f : Byte → State → Result}
    (hf : ∀ v t, t.Quiet k → t.regs = s.regs → (f v t).StoresAt l t) : (readOperandThen z f s).StoresAt l s := by
  cases z with
  | reg r => exact hf _ s (h.mono (by omega)) rfl
  | atHl => exact .read h _ hf

theorem Result.StoresAt.writeOperand (h : s.Quiet (k + 4)) (z : CbOperand) (v : Byte) {f : State → Result}
    (hf : ∀ t, (f t).StoresAt (operandAddrs s z) t) :
    (writeOperandThen z v f s).StoresAt (operandAddrs s z) s := by
  cases z with
  | reg r => exact .of_peek (fun _ _ => rfl) (hf _)
  | atHl => exact .write h (List.mem_singleton.2 rfl) v (fun t _ => hf t)

end

/-! ### What the meanings store -/

theorem State.addEventRelative_peek (s : State) (i : EventId) (d : Nat) (c : Callback) (x : Word) :
    (s.addEventRelative i d c).peek x = s.peek x := by
  unfold State.addEventRelative
  split <;> rfl

theorem State.accumulate_peek (s : State) (op : AluOp) (v : Byte) (x : Word) :
    (s.accumulate op v).peek x = s.peek x := by
  unfold State.accumulate
  simp only
  split <;> rfl

/-- The speed switch moves events only. -/
theorem State.rescheduleAll_peek (s : State) (late : Nat) (es : List Event) (x : Word) :
    (s.rescheduleAll late es).peek x = s.peek x :=
  State.rescheduleAll_induction (R := fun s t => t.peek x = s.peek x) (fun _ => rfl) (fun h k => k.trans h) late
    (fun s e => (s.cancelEventsById e.id).addEventRelative_peek _ _ _ x) es s

theorem stopCpu_storesAt (l : List Word) (s : State) : (stopCpu s).StoresAt l s := by
  refine Result.ends_iff.2 (fun t ht x _ => ?_)
  obtain ⟨es, ⟨-, rfl⟩ | ⟨-, rfl⟩⟩ := stopCpu_next ht <;> exact s.rescheduleAll_peek 0 es x

section
variable {l : List Word} {s : State}

theorem jumpIf_storesAt (cc : Cond) (n16 : Word) : (jumpIf cc n16 s).StoresAt l s := by
  unfold jumpIf
  split <;> exact .unchanged (fun _ => rfl)

theorem jumpRelIf_storesAt (cc : Cond) (e8 : Byte) : (jumpRelIf cc e8 s).StoresAt l s := by
  unfold jumpRelIf
  split <;> exact .unchanged (fun _ => rfl)

variable (h : s.Quiet 8)
include h

theorem aluHl_storesAt (op : AluOp) : (aluHl op s).StoresAt l s :=
  .read (k := 4) h _ (fun _ _ _ _ => .unchanged (State.accumulate_peek _ op _))

theorem loadFrom_storesAt (x : Word) (r : Reg8) : (loadFrom x r s).StoresAt l s :=
  .read (k := 4) h _ (fun _ _ _ _ => .unchanged (fun _ => rfl))

theorem loadAccStep_storesAt (d : Word) : (loadAccStep d s).StoresAt l s :=
  .read (k := 4) h _ (fun _ _ _ _ => .unchanged (fun _ => rfl))

theorem store_storesAt (x : Word) (v : Byte) : (writeThen x v .next s).StoresAt [x] s :=
  .write (k := 4) h (List.mem_singleton.2 rfl) v (fun _ _ => .unchanged (fun _ => rfl))

theorem store_highPage_storesAt (n v : Byte) :
    (writeThen (highPage n) v .next s).StoresAt [0xFF00#16 + n.zeroExtend 16] s :=
  highPage_eq_add n ▸ store_storesAt h (highPage n) v

theorem storeAccStep_storesAt (d : Word) : (storeAccStep d s).StoresAt [s.hl] s :=
  .write (k := 4) h (List.mem_singleton.2 rfl) _ (fun _ _ => .unchanged (fun _ => rfl))

theorem storeSp_storesAt (n16 : Word) : (storeSp n16 s).StoresAt [n16, n16 + 1] s :=
  .write (k := 4) h (by simp) _ (fun _ ht => .write (k := 0) ht (by simp) _ (fun _ _ => .unchanged (fun _ => rfl)))

theorem modifyHl_storesAt (op : Byte → Flags → Alu8) : (modifyHl op s).StoresAt [s.hl] s :=
  .read (k := 4) h _ (fun _ t ht hregs =>
    have hhl : t.hl = s.hl := congrArg (Registers.get16 · .hl) hregs
    .write (k := 0) ht (List.mem_singleton.2 hhl) _ (fun _ _ => .unchanged (fun _ => rfl)))

theorem pushPair_storesAt (r : StackPair) : (pushPair r s).StoresAt (pushedAt s) s :=
  .push16 h.internal _ (fun _ => .unchanged (fun _ => rfl))

theorem popPair_storesAt (r : StackPair) : (popPair r s).StoresAt l s :=
  .pop16 h (fun _ _ => .unchanged (by cases r <;> exact fun _ => rfl))

theorem call_storesAt (n16 : Word) : (call n16 s).StoresAt (pushedAt s) s :=
  .push16 h.internal _ (fun _ => .unchanged (fun _ => rfl))

/-- A call that is not taken stores nothing. -/
theorem callIf_storesAt {cc : Cond} (n16 : Word) (hl : s.flags.holds cc = true → l = pushedAt s) :
    (callIf cc n16 s).StoresAt l s := by
  unfold callIf
  split
  · exact hl ‹_› ▸ call_storesAt h n16
  · exact .unchanged (fun _ => rfl)

theorem ret_storesAt : (ret s).StoresAt l s := .pop16 h (fun _ _ => .unchanged (fun _ => rfl))

theorem retIf_storesAt (cc : Cond) : (retIf cc s).StoresAt l s := by
  unfold retIf
  split
  · exact ret_storesAt h.internal
  · exact .unchanged (fun _ => rfl)

theorem returnFromInterrupt_storesAt : (returnFromInterrupt s).StoresAt l s :=
  .pop16 h (fun _ _ => .unchanged (fun _ => rfl))

/-- The operand that is read is written back: the read keeps hl. -/
theorem readWriteOperand_storesAt (z : CbOperand) (result : Byte → State → Byte) {k : Byte → State → State → Result}
    (hk : ∀ v t u, (k v t u).StoresAt (operandAddrs s z) u) :
    (readOperandThen z (fun v t => writeOperandThen z (result v t) (k v t) t) s).StoresAt (operandAddrs s z) s :=
  .readOperand (k := 4) h z (fun v t ht hregs => by
    have haddrs : operandAddrs t z = operandAddrs s z := by
      cases z with
      | reg r => rfl
      | atHl => exact congrArg (fun g => [g.get16 .hl]) hregs
    rw [← haddrs] at hk ⊢
    exact .writeOperand (k := 0) ht z _ (hk v t))

theorem rotOperand_storesAt (op : RotOp) (z : CbOperand) : (rotOperand op z s).StoresAt (operandAddrs s z) s :=
  readWriteOperand_storesAt h z _ (fun _ _ _ => .unchanged (fun _ => rfl))

theorem bitOperand_storesAt (b : Nat) (z : CbOperand) : (bitOperand b z s).StoresAt l s :=
  .readOperand (k := 4) h z (fun _ _ _ _ => .unchanged (fun _ => rfl))

theorem resOperand_storesAt (b : Nat) (z : CbOperand) : (resOperand b z s).StoresAt (operandAddrs s z) s :=
  readWriteOperand_storesAt h z _ (fun _ _ _ => .unchanged (fun _ => rfl))

theorem setOperand_storesAt (b : Nat) (z : CbOperand) : (setOperand b z s).StoresAt (operandAddrs s z) s :=
  readWriteOperand_storesAt h z _ (fun _ _ _ => .unchanged (fun _ => rfl))

/-- The secondary table stores its operand back, but for BIT (rules R322, R830). -/
theorem runSecondary_storesAt (op2 : Byte) :
    (runSecondary op2 s).StoresAt (if op2.toNat % 8 = 6 ∧ op2.toNat / 64 ≠ 1 then [s.r16 .hl] else []) s := by
  have haddrs := operandAddrs_cbOperand s (k := op2.toNat % 8) (by omega)
  have hx : op2.toNat / 64 = 0 ∨ op2.toNat / 64 = 1 ∨ op2.toNat / 64 = 2 ∨ op2.toNat / 64 = 3 := by omega
  obtain hx | hx | hx | hx := hx <;> simp only [runSecondary, hx]
  · simpa [haddrs] using rotOperand_storesAt h (cbRotOp (op2.toNat / 8 % 8)) (cbOperand (op2.toNat % 8))
  · exact bitOperand_storesAt h _ _
  · simpa [haddrs] using resOperand_storesAt h (op2.toNat / 8 % 8) (cbOperand (op2.toNat % 8))
  · simpa [haddrs] using setOperand_storesAt h (op2.toNat / 8 % 8) (cbOperand (op2.toNat % 8))

end

/-! ### What the instructions store -/

/-- Every instruction but HALT stores where `storedAt` says, by its meaning. -/
theorem exec_storesAt {i : Instr} (hi : i ≠ .halt) {s : State} (h : s.Quiet 8) :
    Result.StoresAt (storedAt i s) s (exec i s) := by
  cases i
  case halt => exact absurd rfl hi
  case stop => exact stopCpu_storesAt _ s
  case ei => exact .unchanged (s.addEventRelative_peek _ _ _)
  case jpNzN16 | jpZN16 | jpNcN16 | jpCN16 => exact jumpIf_storesAt _ _
  case jrNzE8 | jrZE8 | jrNcE8 | jrCE8 => exact jumpRelIf_storesAt _ _
  case addAAtHl | adcAAtHl | subAAtHl | sbcAAtHl | andAAtHl | xorAAtHl | orAAtHl | cpAAtHl => exact aluHl_storesAt h _
  -- loads and stores
  case ldBAtHl | ldCAtHl | ldDAtHl | ldEAtHl | ldHAtHl | ldLAtHl | ldAAtHl | ldAAtBc | ldAAtDe | ldAAtN16 | ldhAAtN8
      | ldhAAtC =>
    exact loadFrom_storesAt h _ _
  case ldAAtHlInc | ldAAtHlDec => exact loadAccStep_storesAt h _
  case ldAtHlB | ldAtHlC | ldAtHlD | ldAtHlE | ldAtHlH | ldAtHlL | ldAtHlA | ldAtHlN8 | ldAtBcA | ldAtDeA | ldAtN16A =>
    exact store_storesAt h _ _
  case ldhAtN8A | ldhAtCA => exact store_highPage_storesAt h _ _
  case ldAtHlIncA | ldAtHlDecA => exact storeAccStep_storesAt h _
  case ldAtN16Sp => exact storeSp_storesAt h _
  case incAtHl => exact modifyHl_storesAt h inc8
  case decAtHl => exact modifyHl_storesAt h dec8
  -- the stack
  case pushBc | pushDe | pushHl | pushAf => exact pushPair_storesAt h _
  case popBc | popDe | popHl | popAf => exact popPair_storesAt h _
  case callN16 | rst00 | rst08 | rst10 | rst18 | rst20 | rst28 | rst30 | rst38 => exact call_storesAt h _
  case callZN16 | callCN16 => exact callIf_storesAt h _ (fun hc => if_pos hc)
  case callNzN16 | callNcN16 => exact callIf_storesAt h _ (fun hc => if_neg (by simpa [Flags.holds] using hc))
  case ret => exact ret_storesAt h
  case retNz | retZ | retNc | retC => exact retIf_storesAt h _
  case reti => exact returnFromInterrupt_storesAt h
  -- PREFIX CB and the secondary table on [HL]
  case prefixCb op2 => exact runSecondary_storesAt h op2
  case rlcAtHl | rrcAtHl | rlAtHl | rrAtHl | slaAtHl | sraAtHl | swapAtHl | srlAtHl =>
    exact rotOperand_storesAt h _ .atHl
  case bit0AtHl | bit1AtHl | bit2AtHl | bit3AtHl | bit4AtHl | bit5AtHl | bit6AtHl | bit7AtHl =>
    exact bitOperand_storesAt h _ .atHl
  case res0AtHl | res1AtHl | res2AtHl | res3AtHl | res4AtHl | res5AtHl | res6AtHl | res7AtHl =>
    exact resOperand_storesAt h _ .atHl
  case set0AtHl | set1AtHl | set2AtHl | set3AtHl | set4AtHl | set5AtHl | set6AtHl | set7AtHl =>
    exact setOperand_storesAt h _ .atHl
  -- every other instruction makes no bus access
  all_goals exact .unchanged (fun _ => rfl)

/-- Settles O43: every instruction by `exec_storesAt`. -/
theorem memoryFrame : Obligations.MemoryFrame :=
  fun _ _ t h hi ht => Result.ends_iff.1 (exec_storesAt hi h) t ht

end Sys2Proof.Machine

/-! ## 16-bit arithmetic: INC rr, DEC rr, ADD HL,rr, ADD SP,e8 and LD HL,SP+e8 -/

namespace Sys2Proof.Machine

open Sys2Proof.Forms

/-! ### The results of 16-bit arithmetic -/

section
variable (x v : Word)

theorem inc16_eq : x + 1 = BitVec.ofNat 16 (x.toNat + 1) := BitVec.eq_of_toNat_eq (by simp)

/-- A step down is a step up by 65535, modulo 65536 (rule R601). -/
theorem dec16_eq : x - 1 = BitVec.ofNat 16 (x.toNat + 65535) := BitVec.eq_of_toNat_eq (by simp; omega)

theorem add16_eq_sum (f : Flags) : add16 x v f =
    { value := BitVec.ofNat 16 ((x.toNat + v.toNat) % 65536),
      flags := { z := f.z, n := false, h := decide (x.toNat % 4096 + v.toNat % 4096 > 4095),
                 c := decide (x.toNat + v.toNat > 65535) } } := by
  have hvalue : x + v = BitVec.ofNat 16 ((x.toNat + v.toNat) % 65536) := BitVec.eq_of_toNat_eq (by simp)
  rw [add16, hvalue]

/-- The flags come from the raw byte, whatever the sign of the displacement (rule R603). -/
theorem addSigned_eq_displaced (e : Byte) : addSigned x e =
    { value := displaced x e,
      flags := { z := false, n := false, h := decide (x.toNat % 16 + e.toNat % 16 > 15),
                 c := decide (x.toNat % 256 + e.toNat > 255) } } := by
  rw [addSigned, ← displaced_eq_add]
  rfl

end

/-! ### The forms and their meanings -/

theorem incPairForms_exec : ∀ f ∈ incPairForms, exec f.1 = incPair f.2 := by
  simp only [incPairForms, List.forall_mem_cons, List.not_mem_nil, false_implies, implies_true, and_true]
  and_intros <;> rfl

theorem decPairForms_exec : ∀ f ∈ decPairForms, exec f.1 = decPair f.2 := by
  simp only [decPairForms, List.forall_mem_cons, List.not_mem_nil, false_implies, implies_true, and_true]
  and_intros <;> rfl

theorem exec_addSpE8 (e8 : Byte) : exec (.addSpE8 e8) = addSpSigned e8 := rfl

theorem exec_ldHlSpE8 (e8 : Byte) : exec (.ldHlSpE8 e8) = loadHlSpSigned e8 := rfl

/-- Settles O27: each form by its pair operation, with the result of `inc16_eq`, `dec16_eq`, `add16_eq_sum` or
`addSigned_eq_displaced`. -/
theorem wordArithmeticResults : Obligations.WordArithmeticResults := by
  refine fun e8 s => ⟨fun f hf => ?_, fun f hf => ?_, fun f hf => ?_, ?_, ?_⟩
  · rw [incPairForms_exec f hf, incPair, inc16_eq]
    rfl
  · rw [decPairForms_exec f hf, decPair, dec16_eq]
    rfl
  · rw [addPairForms_exec f hf, addHlPair, add16_eq_sum]
    rfl
  · rw [exec_addSpE8, addSpSigned, addSigned_eq_displaced]
    rfl
  · rw [exec_ldHlSpE8, loadHlSpSigned, addSigned_eq_displaced]
    rfl

end Sys2Proof.Machine

/-! ## Rotates, shifts and bit operations: the accumulator rotates and the secondary table -/

namespace Sys2Proof.Machine

open Sys2Proof.Forms

/-! ### The results of rotates and shifts -/

/-- A bit of a byte as the spec's arithmetic reads it (rule R9). -/
theorem getLsbD_eq_decide_div_mod (v : Byte) (b : Nat) : v.getLsbD b = decide (v.toNat / 2 ^ b % 2 = 1) :=
  Nat.testBit_eq_decide_div_mod_eq

section
variable (v : Byte) (c : Bool)

theorem toNat_getLsbD_zero : (v.getLsbD 0).toNat = v.toNat % 2 :=
  (Nat.toNat_testBit v.toNat 0).trans (by rw [pow_zero, Nat.div_one])

/-- Nothing stands above bit 7. -/
theorem toNat_getLsbD_seven : (v.getLsbD 7).toNat = v.toNat / 128 :=
  (Nat.toNat_testBit v.toNat 7).trans (by omega)

theorem getLsbD_zero_eq : v.getLsbD 0 = decide (v.toNat % 2 = 1) := by
  rw [← toNat_getLsbD_zero]
  cases v.getLsbD 0 <;> rfl

theorem getLsbD_seven_eq : v.getLsbD 7 = decide (v.toNat / 128 = 1) := by
  rw [← toNat_getLsbD_seven]
  cases v.getLsbD 7 <;> rfl

/-- A step to the left leaves bit 0 free for the bit that comes in. -/
theorem rot8_rl_toNat : (rot8 .rl v c).1.toNat = (2 * v.toNat + c.toNat) % 256 := by
  have hin : (if c then 0x01#8 <<< 0 else 0x00#8).toNat = c.toNat := by cases c <;> rfl
  have hor := Nat.two_pow_add_eq_or_of_lt (i := 1) c.toNat_lt (v.toNat % 128)
  have hleft : (v <<< 1).toNat = 2 ^ 1 * (v.toNat % 128) := by
    rw [BitVec.toNat_shiftLeft, Nat.shiftLeft_eq]
    omega
  rw [rot8, BitVec.toNat_or, hin, hleft, ← hor]
  have := c.toNat_lt
  omega

/-- A step to the right leaves bit 7 free for the bit that comes in. -/
theorem rot8_rr_toNat : (rot8 .rr v c).1.toNat = v.toNat / 2 + 128 * c.toNat := by
  have hin : (if c then 0x01#8 <<< 7 else 0x00#8).toNat = 2 ^ 7 * c.toNat := by cases c <;> rfl
  have hright : (v >>> 1).toNat = v.toNat / 2 := by simp [Nat.shiftRight_eq_div_pow]
  have hor := Nat.two_pow_add_eq_or_of_lt (i := 7) (b := v.toNat / 2) (by omega) c.toNat
  rw [rot8, BitVec.toNat_or, hin, hright, Nat.or_comm, ← hor]
  omega

theorem rot8_swap_toNat : (rot8 .swap v c).1.toNat = 16 * (v.toNat % 16) + v.toNat / 16 := by
  have hv := v.isLt
  have hlow : ((v &&& 0x0F#8) <<< 4).toNat = 2 ^ 4 * (v.toNat % 16) := by
    have hmask : v.toNat &&& 15 = v.toNat % 16 := Nat.and_two_pow_sub_one_eq_mod v.toNat 4
    rw [BitVec.toNat_shiftLeft, BitVec.toNat_and, BitVec.toNat_ofNat, hmask, Nat.shiftLeft_eq]
    omega
  have hhigh : (v >>> 4).toNat = v.toNat / 16 := by simp [Nat.shiftRight_eq_div_pow]
  have hor := Nat.two_pow_add_eq_or_of_lt (i := 4) (b := v.toNat / 16) (by omega) (v.toNat % 16)
  rw [rot8, BitVec.toNat_or, hlow, hhigh, ← hor]

-- The other operations are these two with another bit in place of the old carry.

theorem rot8_rlc : rot8 .rlc v c = rot8 .rl v (v.getLsbD 7) := rfl

theorem rot8_rrc : rot8 .rrc v c = rot8 .rr v (v.getLsbD 0) := rfl

theorem rot8_sla : rot8 .sla v c = rot8 .rl v false := by
  simp [rot8]

theorem rot8_srl : rot8 .srl v c = rot8 .rr v false := by
  simp [rot8]

theorem rot8_sra : rot8 .sra v c = rot8 .rr v (v.getLsbD 7) := by
  have hbit : v &&& 0x80#8 = if v.getLsbD 7 then 0x01#8 <<< 7 else 0x00#8 := BitVec.and_twoPow v 7
  exact congrArg (fun w => (v >>> 1 ||| w, v.getLsbD 0)) hbit

/-- Each operation is the spec's arithmetic on the byte as a number (rules R811 to R825). -/
theorem rotated_eq_rot8 (op : RotOp) : rotated op v.toNat c.toNat = ((rot8 op v c).1.toNat, (rot8 op v c).2) := by
  refine Prod.ext ?_ ?_
  · cases op
    case rlc => rw [rot8_rlc, rot8_rl_toNat, toNat_getLsbD_seven, rotated]
    case rrc => rw [rot8_rrc, rot8_rr_toNat, toNat_getLsbD_zero, rotated]
    case rl => rw [rot8_rl_toNat, rotated]
    case rr => rw [rot8_rr_toNat, rotated]
    case sla =>
      rw [rot8_sla, rot8_rl_toNat, rotated]
      rfl
    case sra => rw [rot8_sra, rot8_rr_toNat, toNat_getLsbD_seven, rotated]
    case swap => rw [rot8_swap_toNat, rotated]
    case srl =>
      rw [rot8_srl, rot8_rr_toNat, rotated]
      rfl
  · cases op
    case rlc | rl | sla => exact (getLsbD_seven_eq v).symm
    case rrc | rr | sra | srl => exact (getLsbD_zero_eq v).symm
    case swap => rfl

theorem rotFlags8_eq_rotated (op : RotOp) :
    let q := rotated op v.toNat c.toNat
    rotFlags8 op v c =
      { value := BitVec.ofNat 8 q.1, flags := { z := decide (q.1 = 0), n := false, h := false, c := q.2 } } := by
  simp only [rotated_eq_rot8, rotFlags8, beq_zero_eq_toNat, BitVec.ofNat_toNat, BitVec.setWidth_eq]

theorem rotAcc8_eq_rotated (op : RotOp) :
    let q := rotated op v.toNat c.toNat
    rotAcc8 op v c = { value := BitVec.ofNat 8 q.1, flags := { z := false, n := false, h := false, c := q.2 } } := by
  simp only [rotated_eq_rot8, rotAcc8, BitVec.ofNat_toNat, BitVec.setWidth_eq]

end

/-! ### The results of bit operations -/

section
variable (b : Nat) (v : Byte)

theorem bitFlags_eq (f : Flags) :
    bitFlags b v f = { z := decide (v.toNat / 2 ^ b % 2 = 0), n := false, h := true, c := f.c } := by
  have hz : (!v.getLsbD b) = decide (v.toNat / 2 ^ b % 2 = 0) := by
    rw [getLsbD_eq_decide_div_mod, ← decide_not, decide_eq_decide]
    omega
  rw [bitFlags, hz]

theorem getLsbD_one_shiftLeft {k : Nat} (hk : k < 8) : (0x01#8 <<< b).getLsbD k = decide (k = b) := by
  rw [← BitVec.twoPow_eq, BitVec.getLsbD_twoPow, ← Bool.decide_and, decide_eq_decide]
  omega

theorem getLsbD_resBit {k : Nat} (hk : k < 8) : (resBit b v).getLsbD k = (decide (k ≠ b) && v.getLsbD k) := by
  have hones : (0xFF#8).getLsbD k = true := by interval_cases k <;> rfl
  rw [resBit, BitVec.getLsbD_and, BitVec.getLsbD_xor, getLsbD_one_shiftLeft b hk, hones, Bool.true_xor, ← decide_not,
    Bool.and_comm]

theorem getLsbD_setBit {k : Nat} (hk : k < 8) : (setBit b v).getLsbD k = (decide (k = b) || v.getLsbD k) := by
  rw [setBit, BitVec.getLsbD_or, getLsbD_one_shiftLeft b hk, Bool.or_comm]

end

/-! ### The forms and their meanings -/

theorem rotAccForms_exec : ∀ f ∈ rotAccForms, exec f.1 = rotAcc f.2 := by
  simp only [rotAccForms, List.forall_mem_cons, List.not_mem_nil, false_implies, implies_true, and_true]
  and_intros <;> rfl

theorem rotForms_exec : ∀ f ∈ rotForms, exec f.1 = rotOperand f.2.1 f.2.2 := by
  simp only [rotForms, List.forall_mem_cons, List.not_mem_nil, false_implies, implies_true, and_true]
  and_intros <;> rfl

theorem resForms_exec : ∀ f ∈ resForms, exec f.1 = resOperand f.2.1 f.2.2 := by
  simp only [resForms, List.forall_mem_cons, List.not_mem_nil, false_implies, implies_true, and_true]
  and_intros <;> rfl

theorem setForms_exec : ∀ f ∈ setForms, exec f.1 = setOperand f.2.1 f.2.2 := by
  simp only [setForms, List.forall_mem_cons, List.not_mem_nil, false_implies, implies_true, and_true]
  and_intros <;> rfl

/-! ### The operand of the secondary table -/

section
variable {s : State} {z : CbOperand}

@[simp] theorem readAt_regs (s : State) (z : CbOperand) : (readAt s z).2.regs = s.regs := by
  cases z <;> simp [readAt]

@[simp] theorem readAt_flags (s : State) (z : CbOperand) : (readAt s z).2.flags = s.flags := by
  cases z <;> simp [readAt]

theorem readOperandThen_live (h : (readAt s z).2.broken = false) (k : Byte → State → Result) :
    readOperandThen z k s = k (readAt s z).1 (readAt s z).2 := by
  cases z with
  | reg r => rfl
  | atHl => exact readThen_live h k

theorem writeOperandThen_live {v : Byte} (h : (writeAt s v z).broken = false) (k : State → Result) :
    writeOperandThen z v k s = k (writeAt s v z) := by
  cases z with
  | reg r => rfl
  | atHl => exact writeThen_live h k

/-- A last write answers the state after it, whether or not a fatal condition came of it. -/
@[simp] theorem writeOperandThen_next (s : State) (z : CbOperand) (v : Byte) :
    writeOperandThen z v .next s = .next (writeAt s v z) := by
  cases z with
  | reg r => rfl
  | atHl => exact writeThen_next s _ v

/-! ### Rotates, shifts, BIT, RES and SET -/

theorem rotOperand_live {op : RotOp} :
    let r := readAt s z
    let x := rotFlags8 op r.1 s.flags.c
    r.2.broken = false → (writeAt r.2 x.value z).broken = false →
      rotOperand op z s = .next ((writeAt r.2 x.value z).setFlags x.flags) := by
  intro r x hread hwrite
  rw [rotOperand, readOperandThen_live hread, readAt_flags]
  exact writeOperandThen_live hwrite _

theorem bitOperand_live (b : Nat) (h : (readAt s z).2.broken = false) :
    bitOperand b z s = .next ((readAt s z).2.setFlags (bitFlags b (readAt s z).1 s.flags)) := by
  rw [bitOperand, readOperandThen_live h, readAt_flags]

theorem resOperand_live (b : Nat) (h : (readAt s z).2.broken = false) :
    resOperand b z s = .next (writeAt (readAt s z).2 (resBit b (readAt s z).1) z) := by
  rw [resOperand, readOperandThen_live h, writeOperandThen_next]

theorem setOperand_live (b : Nat) (h : (readAt s z).2.broken = false) :
    setOperand b z s = .next (writeAt (readAt s z).2 (setBit b (readAt s z).1) z) := by
  rw [setOperand, readOperandThen_live h, writeOperandThen_next]

end

/-- Settles O31: the operations by `rotated_eq_rot8`, on a by `rotAcc` and on an operand by `rotOperand_live`. -/
theorem rotateAndShiftResults : Obligations.RotateAndShiftResults := by
  refine fun s => ⟨fun f hf => ?_, fun f hf => ?_⟩
  · rw [rotAccForms_exec f hf, rotAcc, rotAcc8_eq_rotated]
    rfl
  · intro r q t hread hwrite
    have hx := rotFlags8_eq_rotated r.1 s.flags.c f.2.1
    have hlive := rotOperand_live (op := f.2.1) hread (hx ▸ hwrite)
    rw [rotForms_exec f hf, hlive, hx]
    rfl

/-- Settles O32: the read keeps the registers and the flags. -/
theorem bitTestResults : Obligations.BitTestResults := by
  intro s f hf h
  rw [bitForms_exec f hf, bitOperand_live f.2.1 h, bitFlags_eq, ← readAt_regs s f.2.2]
  rfl

/-- Settles O33: the byte that is written has the bits of w, so it is w. -/
theorem bitClearAndSetResults : Obligations.BitClearAndSetResults := by
  refine fun s w => ⟨fun f hf h hw => ?_, fun f hf h hw => ?_⟩
  · have hbyte : w = resBit f.2.1 (readAt s f.2.2).1 :=
      BitVec.eq_of_getLsbD_eq fun k hk => (hw k hk).trans (getLsbD_resBit _ _ hk).symm
    rw [resForms_exec f hf, resOperand_live f.2.1 h, hbyte]
  · have hbyte : w = setBit f.2.1 (readAt s f.2.2).1 :=
      BitVec.eq_of_getLsbD_eq fun k hk => (hw k hk).trans (getLsbD_setBit _ _ hk).symm
    rw [setForms_exec f hf, setOperand_live f.2.1 h, hbyte]

end Sys2Proof.Machine

/-! ## System: EI, HALT, STOP and the illegal opcodes -/

namespace Sys2Proof.Machine

/-! ### The event of EI -/

/-- IME will be set within n ticks: it is, or an event that sets it falls due by then and nothing the environment has
lined up can cancel it (rule R1070). -/
structure State.ImeWithin (n : Nat) (s : State) : Prop where
  live : s.broken = false
  noCallbacks : s.env.callbacks = []
  comes : s.ime = true ∨ ∃ e ∈ s.events, e.callback = .enableIme ∧ e.dueTick ≤ s.currentTick + n

/-- With no effect lined up, a callback can only set IME. -/
theorem State.runCallback_of_noCallbacks {s : State} (h : s.env.callbacks = []) (e : Event) :
    s.runCallback e =
      { s.observe (.callback s.currentTick e.id (s.currentTick - e.dueTick)) with
        ime := s.ime || e.callback == .enableIme } := by
  cases hc : e.callback with
  | enableIme => simp [State.runCallback, hc]
  | env tag => simp [State.runCallback, hc, State.drawCallback, h, State.applyActs, State.observe]

/-- A round of the tick loop runs the awaited event, or another one and leaves it pending. -/
theorem State.ImeWithin.runFirstEvent {n : Nat} {s : State} (h : s.ImeWithin n) (hdue : s.eventDue = true) :
    s.runFirstEvent.ImeWithin n := by
  obtain ⟨hlive, hnone, hcomes⟩ := h
  rcases s.popFirstEvent_cases with ⟨hempty, -⟩ | ⟨e, -, ties, draws, hpop⟩
  · have hnot : s.eventDue = false := State.eventDue_eq_false.2 (by simp [hempty])
    simp [hnot] at hdue
  · rw [State.runFirstEvent, hpop]
    simp only
    rw [State.runCallback_of_noCallbacks (by exact hnone)]
    refine ⟨hlive, hnone, ?_⟩
    obtain hime | ⟨f, hf, hset, hfdue⟩ := hcomes
    · exact .inl (by simp [hime])
    · by_cases hfe : f = e
      · exact .inl (by simp [← hfe, hset])
      · exact .inr ⟨f, (List.mem_erase_of_ne hfe).2 hf, hset, hfdue⟩

theorem State.ImeWithin.runDue {n : Nat} (fuel : Nat) {s : State} (h : s.ImeWithin n) :
    (runDue fuel s).ImeWithin n := by
  induction fuel generalizing s with
  | zero => exact h
  | succ fuel ih =>
    rw [Machine.runDue]
    split
    · rename_i hdue
      have hround := h.runFirstEvent hdue
      simpa [hround.live] using ih hround
    · exact h

theorem State.ImeWithin.tick {n : Nat} {s : State} (h : s.ImeWithin n) : (s.tick n).ImeWithin 0 :=
  State.ImeWithin.runDue _ ⟨h.live, h.noCallbacks, h.comes⟩

/-- After its ticks no event is due any more, so the awaited one has run. -/
theorem State.ImeWithin.tick_ime {n : Nat} {s : State} (h : s.ImeWithin n) : (s.tick n).ime = true := by
  obtain ⟨hlive, -, hime | ⟨e, he, -, hdue⟩⟩ := h.tick
  · exact hime
  · exact absurd (State.tick_future s n hlive e he) (by omega)

theorem State.ImeWithin.memRead_ime {s : State} (h : s.ImeWithin 4) (x : Word) : (s.memRead x).2.ime = true := by
  rw [State.memRead_of_live h.tick.live, State.busRead_ime, h.tick_ime]

theorem State.addEventRelative_of_full {s : State} (h : 64 ≤ s.events.length) (i : EventId) (d : Nat) (c : Callback) :
    s.addEventRelative i d c = s.raiseFatal (.schedulerCapacityExceeded i) :=
  if_pos h

theorem State.addEventRelative_imeWithin {s : State} (hlive : s.broken = false) (hroom : s.events.length < 64)
    (hnone : s.env.callbacks = []) (i : EventId) (n : Nat) : (s.addEventRelative i n .enableIme).ImeWithin n := by
  rw [State.addEventRelative_of_room hroom]
  exact ⟨hlive, hnone, .inr ⟨_, List.mem_append_right _ (List.mem_singleton_self _), rfl, Nat.le_refl _⟩⟩

/-- Settles O36: the event of EI falls due within the four ticks of the access. -/
theorem enableImeFiresInTheNextAccess : Obligations.EnableImeFiresInTheNextAccess := by
  intro s x hlive hroom hnone
  have hcoming := State.addEventRelative_imeWithin hlive hroom hnone .enableInterrupts 4
  exact ⟨_, rfl, s.addEventRelative_ime _ _ _, hcoming.memRead_ime x, hcoming.tick_ime⟩

/-- Settles O35: EI by the room left for its event. -/
theorem nopDiAndEiResults : Obligations.NopDiAndEiResults := fun _ =>
  ⟨rfl, rfl,
    fun hroom => congrArg Host.Outcome.next (State.addEventRelative_of_room hroom .enableInterrupts 4 .enableIme),
    fun hfull => congrArg Host.Outcome.next (State.addEventRelative_of_full hfull .enableInterrupts 4 .enableIme)⟩

end Sys2Proof.Machine

namespace Sys2Proof.Machine

open Sys2Proof.Forms

/-! ### The illegal opcodes -/

theorem illegalForms_exec : ∀ f ∈ illegalForms, exec f.1 = illegalOpcode f.2 := by
  simp only [illegalForms, List.forall_mem_cons, List.not_mem_nil, false_implies, implies_true, and_true]
  and_intros <;> rfl

/-- Settles O40: the fatal condition ends the step. -/
theorem illegalOpcodesAreFatal : Obligations.IllegalOpcodesAreFatal := by
  intro s f hf
  rw [illegalForms_exec f hf]
  exact ⟨rfl, completeStep_of_broken rfl⟩

end Sys2Proof.Machine

namespace Sys2Proof.Machine

/-! ### The halt skip, one iteration at a time -/

theorem State.interruptAvailable_iff (s : State) :
    s.interruptAvailable = true ↔ s.ifr &&& s.ie &&& 0x1F#8 ≠ 0x00#8 := by
  simp [State.interruptAvailable, Config.sourceMask]

theorem State.interruptAvailable_eq_false (s : State) :
    s.interruptAvailable = false ↔ s.ifr &&& s.ie &&& 0x1F#8 = 0x00#8 := by
  simp [State.interruptAvailable, Config.sourceMask]

/-- nextEventTick is the least due tick (rule R144). -/
theorem State.nextEventTick_eq_some {s : State} {d : Nat} (hmem : ∃ e ∈ s.events, e.dueTick = d)
    (hle : ∀ e ∈ s.events, d ≤ e.dueTick) : s.nextEventTick = some d := by
  obtain ⟨e, he, rfl⟩ := hmem
  cases hnext : s.nextEventTick with
  | none => simp [leastDue_eq_none.1 hnext] at he
  | some d' =>
    obtain ⟨f, hf, rfl⟩ := leastDue_mem hnext
    rw [Nat.le_antisymm (leastDue_le hnext e he) (hle f hf)]

section
variable {s : State}

theorem haltSkipLoop_of_available (n : Nat) (h : s.interruptAvailable = true) : haltSkipLoop n s = s := by
  unfold haltSkipLoop
  rw [if_pos h]

/-- Nothing to wait for, or the cap used up (rule R1004). -/
theorem haltSkipLoop_stuck {n : Nat} (h : s.interruptAvailable = false) (hstuck : s.events = [] ∨ n = 0) :
    haltSkipLoop n s = s.raiseFatal .haltSkipStuck := by
  unfold haltSkipLoop
  rw [if_neg (by simp [h])]
  obtain hempty | rfl := hstuck
  · rw [State.nextEventTick, leastDue_eq_none.2 hempty]
  · cases s.nextEventTick <;> rfl

theorem haltSkipLoop_advance (m : Nat) {d : Nat} (h : s.interruptAvailable = false) (hnext : s.nextEventTick = some d) :
    haltSkipLoop (m + 1) s =
      if (s.tick (d - s.currentTick)).broken then s.tick (d - s.currentTick)
      else haltSkipLoop m (s.tick (d - s.currentTick)) := by
  rw [haltSkipLoop, if_neg (by simp [h]), hnext]

/-! ### HALT -/

theorem haltSkipThen_broken {t : State} (ht : haltSkipLoop s.params.haltSkipCap { s with cpuMode := .halted } = t)
    (hb : t.broken = true) (k : State → Result) : haltSkipThen k s = .next t := by
  rw [haltSkipThen, ht, if_pos hb]

theorem haltSkipThen_live {t : State} (ht : haltSkipLoop s.params.haltSkipCap { s with cpuMode := .halted } = t)
    (hb : t.broken = false) (k : State → Result) : haltSkipThen k s = k { t with cpuMode := .running } := by
  rw [haltSkipThen, ht, if_neg (by simp [hb])]

/-- The halt bug (rule R910): IME clear, and an interrupt that would have ended the wait is available. -/
theorem exec_halt_bug (hime : s.ime = false) (h : s.interruptAvailable = true) :
    exec .halt s = .next { s with haltBug := true } :=
  if_neg (by simp [hime, h])

/-- How HALT goes on when the halt skip has ended in the state t (rules R910, R1050). -/
structure HaltEndsAs (s t : State) : Prop where
  fatal : t.broken = true → exec .halt s = .next t
  dispatch : t.broken = false → t.ime = true ∨ t.params.haltWakeDispatchIme0 = true →
    exec .halt s = dispatchInterrupt true { t with cpuMode := .running }
  resume : t.broken = false → t.ime = false → t.params.haltWakeDispatchIme0 = false →
    exec .halt s = .next { t with cpuMode := .running }

theorem exec_halt_skip (h : s.ime = true ∨ s.interruptAvailable = false) {t : State}
    (ht : haltSkipLoop s.params.haltSkipCap { s with cpuMode := .halted } = t) : HaltEndsAs s t := by
  have hexec : exec .halt s =
      haltSkipThen (fun t => if t.ime || t.params.haltWakeDispatchIme0 then dispatchInterrupt true t else .next t) s :=
    if_pos (by simpa using h)
  refine ⟨fun hb => ?_, fun hb hwake => ?_, fun hb hime hwake => ?_⟩
  · rw [hexec, haltSkipThen_broken ht hb]
  · rw [hexec, haltSkipThen_live ht hb, if_pos (by simpa using hwake)]
  · rw [hexec, haltSkipThen_live ht hb, if_neg (by simp [hime, hwake])]

end

/-- Settles O37: the halt bug, and the two halt skips that make no iteration. -/
theorem haltBugOrHaltSkip : Obligations.HaltBugOrHaltSkip := by
  intro s hlive available
  have hbit : s.interruptAvailable = true ↔ available := s.interruptAvailable_iff
  refine ⟨fun hime h => exec_halt_bug hime (hbit.2 h), fun hime h => ?_, fun h hstuck => ?_⟩
  · have hskip := haltSkipLoop_of_available (s := { s with cpuMode := .halted }) s.params.haltSkipCap (hbit.2 h)
    exact (exec_halt_skip (.inl hime) hskip).dispatch hlive (.inl hime)
  · have hnone : s.interruptAvailable = false := by simpa using mt hbit.1 h
    exact (exec_halt_skip (.inr hnone) (haltSkipLoop_stuck (s := { s with cpuMode := .halted }) hnone hstuck)).fatal rfl

/-- Settles O38: the ends of HALT, the equations of the halt skip, and the two together for a wake after one
iteration. -/
theorem haltSkipAdvancesToTheNextEvent : Obligations.HaltSkipAdvancesToTheNextEvent := by
  refine ⟨fun s _ h => ?_, fun m h hi => ?_, fun m h hi => ⟨fun hstuck => ?_, fun d hmem hle => ?_⟩,
    fun s d n _ hcap hi hmem hle => ?_⟩
  · obtain ⟨hfatal, hdispatch, hresume⟩ := exec_halt_skip (h.imp_right s.interruptAvailable_eq_false.2) rfl
    exact ⟨hfatal, fun hb => ⟨hdispatch hb, hresume hb⟩⟩
  · exact haltSkipLoop_of_available m (h.interruptAvailable_iff.2 hi)
  · exact haltSkipLoop_stuck (h.interruptAvailable_eq_false.2 hi) hstuck
  · exact haltSkipLoop_advance m (h.interruptAvailable_eq_false.2 hi) (State.nextEventTick_eq_some hmem hle)
  · intro t hb ht
    have hnone := s.interruptAvailable_eq_false.2 hi
    have hskip : haltSkipLoop s.params.haltSkipCap { s with cpuMode := .halted } = t := by
      rw [hcap, haltSkipLoop_advance (s := { s with cpuMode := .halted }) n hnone
        (State.nextEventTick_eq_some hmem hle), if_neg (by rw [Bool.not_eq_true]; exact hb)]
      exact haltSkipLoop_of_available n (t.interruptAvailable_iff.2 ht)
    have hends := exec_halt_skip (.inr hnone) hskip
    exact ⟨hends.dispatch hb, hends.resume hb⟩

end Sys2Proof.Machine

namespace Sys2Proof.Machine

open Sys2Proof.Forms

/-! ### The affected events -/

theorem affected_eq (i : EventId) :
    affected i = (i == .displayMode || i == .audioSample || i == .frameSequencer) := by
  cases i <;> rfl

theorem scaledDelay_eq_switchedDelay (double : Bool) (r : Nat) : scaledDelay double r = switchedDelay double r := by
  cases double
  · exact Nat.shiftRight_eq_div_pow r 1
  · exact (Nat.shiftLeft_eq r 1).trans (Nat.mul_comm r 2)

/-- Among affected events the search for a shared id fails only where the ids are distinct (rule R1081). -/
theorem duplicateAffected_eq_none {es : List Event} (h : ∀ e ∈ es, affected e.id = true) :
    duplicateAffected es = none ↔ (es.map (·.id)).Nodup := by
  induction es with
  | nil => simp [duplicateAffected]
  | cons e es ih =>
    obtain ⟨he, hes⟩ := List.forall_mem_cons.1 h
    rw [duplicateAffected, he, Bool.true_and, List.map_cons, List.nodup_cons, ← ih hes]
    have hany : es.any (fun f => f.id == e.id) = true ↔ e.id ∈ es.map (·.id) := by simp
    by_cases hmem : e.id ∈ es.map (·.id)
    · rw [if_pos (hany.2 hmem)]
      simp [hmem]
    · rw [if_neg (mt hany.1 hmem)]
      simp [hmem]

/-- What it finds is the id of two events at least. -/
theorem two_le_of_duplicateAffected {es : List Event} {i : EventId} (h : duplicateAffected es = some i) :
    2 ≤ (es.filter (fun e => e.id == i)).length := by
  induction es with
  | nil => simp [duplicateAffected] at h
  | cons e es ih =>
    rw [duplicateAffected] at h
    split at h
    · rename_i hdup
      obtain ⟨-, hany⟩ := Bool.and_eq_true_iff.1 hdup
      obtain ⟨f, hf, hid⟩ := List.any_eq_true.1 hany
      cases h
      have : 0 < (es.filter (fun f => f.id == e.id)).length := List.length_pos_of_mem (List.mem_filter.2 ⟨hf, hid⟩)
      rw [List.filter_cons_of_pos (by simp), List.length_cons]
      omega
    · exact (ih h).trans ((List.sublist_cons_self e es).filter _).length_le

/-! ### The speed switch -/

/-- What of an event the statements speak of: all but its number in the order of addition. -/
def Event.content (e : Event) : EventId × Nat × Callback := (e.id, e.dueTick, e.callback)

/-- The content of an affected event after the switch (rule R1080). -/
def State.switchedContent (s : State) (e : Event) : EventId × Nat × Callback :=
  (e.id, s.currentTick + switchedDelay s.doubleSpeed (e.dueTick - s.currentTick), e.callback)

/-- Cancelling a pending event makes the room that adding it again needs, so no rescheduling is fatal. -/
theorem State.reschedule_of_pending {s : State} {e : Event} (he : e ∈ s.events) (hcap : s.events.length ≤ 64) :
    ∃ f : Event, f.content = s.switchedContent e ∧
      s.reschedule 0 e =
        { s with events := s.events.filter (fun g => g.id != e.id) ++ [f], nextSeq := s.nextSeq + 1 } ∧
      (s.reschedule 0 e).events.length ≤ 64 := by
  have hroom : (s.cancelEventsById e.id).events.length < 64 :=
    lt_of_lt_of_le (List.length_filter_lt_length_iff_exists.2 ⟨e, he, by simp⟩) hcap
  refine ⟨_, ?_, State.addEventRelative_of_room hroom _ _ _, ?_⟩
  · simp [Event.content, State.switchedContent, scaledDelay_eq_switchedDelay]
  · rw [State.reschedule, State.addEventRelative_of_room hroom]
    simpa using hroom

/-- The loop over pending events of distinct ids: the events of other ids stand as they were, and each of these stands
after them, in order, with its delay switched. -/
theorem State.rescheduleAll_of_pending {es : List Event} {s : State} (hlive : s.broken = false)
    (hids : (es.map (·.id)).Nodup) (hes : ∀ e ∈ es, e ∈ s.events) (hcap : s.events.length ≤ 64) :
    ∃ added seq, added.map Event.content = es.map s.switchedContent ∧
      s.rescheduleAll 0 es =
        { s with events := s.events.filter (fun g => g.id ∉ es.map (·.id)) ++ added, nextSeq := seq } := by
  induction es generalizing s with
  | nil => exact ⟨[], s.nextSeq, rfl, by simp [State.rescheduleAll]⟩
  | cons e es ih =>
    obtain ⟨hid, hids⟩ := List.nodup_cons.1 (List.map_cons ▸ hids)
    obtain ⟨he, hes⟩ := List.forall_mem_cons.1 hes
    obtain ⟨f, hf, ht, hlen⟩ := State.reschedule_of_pending he hcap
    have hfid : f.id = e.id := congrArg Prod.fst hf
    have hes' : ∀ g ∈ es, g ∈ (s.reschedule 0 e).events := by
      intro g hg
      have hne : g.id ≠ e.id := fun heq => hid (heq ▸ List.mem_map_of_mem hg)
      rw [ht]
      exact List.mem_append_left _ (List.mem_filter.2 ⟨hes g hg, by simpa using hne⟩)
    obtain ⟨added, seq, hadded, hu⟩ := ih (ht ▸ hlive) hids hes' hlen
    refine ⟨f :: added, seq, ?_, ?_⟩
    · rw [List.map_cons, hf, hadded, ht]
      rfl
    · have hkeep : [f].filter (fun g => g.id ∉ es.map (·.id)) = [f] :=
        List.filter_eq_self.2 (by simpa [hfid] using hid)
      have hevents : (s.reschedule 0 e).events.filter (fun g => g.id ∉ es.map (·.id)) ++ added =
          s.events.filter (fun g => g.id ∉ (e :: es).map (·.id)) ++ f :: added := by
        rw [ht, List.filter_append, hkeep, List.append_assoc, List.filter_filter]
        simp [bne, beq_eq_decide, Bool.and_comm]
      rw [State.rescheduleAll, if_neg (by rw [ht]; simp [hlive]), hu, hevents, ht]

/-- The snapshot of the speed switch (rule R1080). -/
def State.affectedEvents (s : State) : List Event := s.events.filter (fun e => affected e.id)

section
variable {s : State} {k : State → Result}

theorem speedSwitchThen_duplicate {i : EventId} (h : duplicateAffected s.affectedEvents = some i) :
    speedSwitchThen 0 k s = .refused (.duplicateAffectedEvent i) := by
  rw [State.affectedEvents] at h
  rw [speedSwitchThen, h]

theorem speedSwitchThen_overdue (h : duplicateAffected s.affectedEvents = none)
    (hlate : ∃ e ∈ s.affectedEvents, e.dueTick < s.currentTick) :
    ∃ i, speedSwitchThen 0 k s = .fault (.negativeRemaining i) := by
  rw [State.affectedEvents] at h hlate
  have hfind : ((s.events.filter (fun e => affected e.id)).find?
      (fun e => decide (e.dueTick < s.currentTick + 0))).isSome = true :=
    List.find?_isSome.2 (by simpa using hlate)
  obtain ⟨e, he⟩ := Option.isSome_iff_exists.1 hfind
  exact ⟨e.id, by rw [speedSwitchThen, h]; simp only [he]⟩

theorem speedSwitchThen_live (h : duplicateAffected s.affectedEvents = none)
    (hdue : ∀ e ∈ s.affectedEvents, s.currentTick ≤ e.dueTick)
    (hlive : (s.rescheduleAll 0 s.affectedEvents).broken = false) :
    speedSwitchThen 0 k s =
      k { s.rescheduleAll 0 s.affectedEvents with
        doubleSpeed := !(s.rescheduleAll 0 s.affectedEvents).doubleSpeed } := by
  rw [State.affectedEvents] at h hdue hlive ⊢
  have hfind : (s.events.filter (fun e => affected e.id)).find?
      (fun e => decide (e.dueTick < s.currentTick + 0)) = none :=
    List.find?_eq_none.2 (by simpa using hdue)
  rw [speedSwitchThen, h]
  simp only [hfind, hlive, Bool.false_eq_true, if_false]

end

/-- After the loop over its snapshot the other events stand in order, before the switched ones. -/
theorem State.rescheduleAll_affectedEvents {s : State} (hlive : s.broken = false)
    (hids : (s.affectedEvents.map (·.id)).Nodup) (hcap : s.events.length ≤ 64) :
    ∃ added seq, added.map Event.content = s.affectedEvents.map s.switchedContent ∧
      s.rescheduleAll 0 s.affectedEvents =
        { s with events := s.events.filter (fun e => !affected e.id) ++ added, nextSeq := seq } := by
  obtain ⟨added, seq, hadded, ht⟩ :=
    State.rescheduleAll_of_pending hlive hids (fun _ he => List.mem_of_mem_filter he) hcap
  have hothers : s.events.filter (fun g => g.id ∉ s.affectedEvents.map (·.id)) =
      s.events.filter (fun e => !affected e.id) := by
    refine List.filter_congr (fun e he => ?_)
    cases ha : affected e.id with
    | true =>
      have hmem : e.id ∈ s.affectedEvents.map (·.id) := List.mem_map_of_mem (List.mem_filter.2 ⟨he, ha⟩)
      simpa using hmem
    | false =>
      have hmem : e.id ∉ s.affectedEvents.map (·.id) := by
        intro h
        obtain ⟨f, hf, hid⟩ := List.mem_map.1 h
        have := (List.mem_filter.1 hf).2
        simp [hid, ha] at this
      simpa using hmem
  exact ⟨added, seq, hadded, hothers ▸ ht⟩

/-- An event the loop has added has an affected id. -/
theorem affected_of_content {es added : List Event} {s : State}
    (hadded : added.map Event.content = es.map s.switchedContent) (hes : ∀ e ∈ es, affected e.id = true) :
    ∀ f ∈ added, affected f.id = true := by
  intro f hf
  obtain ⟨e, he, heq⟩ := List.mem_map.1 (hadded ▸ List.mem_map_of_mem hf)
  have hid : e.id = f.id := congrArg Prod.fst heq
  exact hid ▸ hes e he

/-- Settles O39: the two stops are looked for in the order of the rules; where neither is met the loop over the affected
events ends in no fatal condition. -/
theorem stopSwitchesSpeedOrIsRefused : Obligations.StopSwitchesSpeedOrIsRefused := by
  intro n8 s affectedId hit
  -- The statement writes rule R1081 out again; from here on the model's own words stand for it.
  have haff : affectedId = affected := funext (fun i => (affected_eq i).symm)
  have hhit : hit = s.affectedEvents := by simp only [hit, haff, State.affectedEvents]
  have hall : ∀ e ∈ s.affectedEvents, affected e.id = true := fun _ he => (List.mem_filter.1 he).2
  have hnone := duplicateAffected_eq_none hall
  clear_value affectedId hit
  subst haff hhit
  have hexec (harm : s.env.speedSwitchArmed = true) : exec (.stop n8) s =
      speedSwitchThen 0 (fun t => .next { t with env := { t.env with speedSwitchArmed := false } }) s := if_pos harm
  refine ⟨fun harm => if_neg (by simp [harm]), fun harm hdup => ?_, fun harm hids hlate => ?_,
    fun harm hids hdue hlive hcap => ?_⟩
  · obtain ⟨i, hi⟩ := Option.ne_none_iff_exists'.1 (mt hnone.1 hdup)
    exact ⟨i, (hexec harm).trans (speedSwitchThen_duplicate hi), two_le_of_duplicateAffected hi⟩
  · rw [hexec harm]
    exact speedSwitchThen_overdue (hnone.2 hids) hlate
  · obtain ⟨added, seq, hadded, ht⟩ := State.rescheduleAll_affectedEvents hlive hids hcap
    have haddedAff := affected_of_content hadded hall
    refine ⟨s.events.filter (fun e => !affected e.id) ++ added, seq, ?_, ?_, ?_⟩
    · rw [hexec harm, speedSwitchThen_live (hnone.2 hids) hdue (by rw [ht]; exact hlive), ht]
    · have hnotAdded : added.filter (fun e => !affected e.id) = [] :=
        List.filter_eq_nil_iff.2 (fun f hf => by simp [haddedAff f hf])
      rw [List.filter_append, hnotAdded, List.append_nil, List.filter_filter]
      simp
    · have hadded' : added.filter (fun e => affected e.id) = added := List.filter_eq_self.2 haddedAff
      have hothers : (s.events.filter (fun e => !affected e.id)).filter (fun e => affected e.id) = [] :=
        List.filter_eq_nil_iff.2 (fun e he => by simpa using (List.mem_filter.1 he).2)
      rw [List.filter_append, hadded', hothers, List.nil_append]
      exact hadded

end Sys2Proof.Machine

/-! ## Exceptions: the selection, the dispatch, the scheduler and the fatal conditions -/

namespace Sys2Proof.Machine

open Sys2Proof.Forms

/-! ### The selection of a source -/

/-- A selected source is the least one requested and enabled (rule R1020). -/
theorem leastSource_eq_some {e f : Byte} {k : Nat} :
    leastSource e f = some k ↔
      k < 5 ∧ f.getLsbD k = true ∧ e.getLsbD k = true ∧ ∀ j < k, ¬(f.getLsbD j = true ∧ e.getLsbD j = true) := by
  rw [leastSource, List.find?_range_eq_some]
  simp only [Bool.and_comm (e.getLsbD _), Bool.and_eq_true, List.mem_range, Bool.not_eq_true', ← Bool.not_eq_true]
  tauto

theorem leastSource_eq_none {e f : Byte} : leastSource e f = none ↔ f &&& e &&& 0x1F#8 = 0x00#8 := by
  have hmask : ∀ j < 8, (0x1F#8).getLsbD j = decide (j < 5) := by decide
  rw [leastSource, List.find?_range_eq_none]
  simp only [Bool.and_comm (e.getLsbD _), Bool.not_eq_true']
  constructor
  · intro h
    refine BitVec.eq_of_getLsbD_eq (fun j hj => ?_)
    rw [BitVec.getLsbD_and, BitVec.getLsbD_and, hmask j hj, BitVec.getLsbD_zero]
    by_cases hj5 : j < 5
    · rw [h j hj5, Bool.false_and]
    · rw [decide_eq_false hj5, Bool.and_false]
  · intro h j hj
    have hbit : (f &&& e &&& 0x1F#8).getLsbD j = false := by rw [h, BitVec.getLsbD_zero]
    rwa [BitVec.getLsbD_and, BitVec.getLsbD_and, hmask j (by omega), decide_eq_true hj, Bool.and_true] at hbit

/-- Clearing a request bit leaves every other bit of IF (rule R1030). -/
theorem getLsbD_clearSource (v : Byte) (k : Nat) {j : Nat} (hj : j < 8) :
    (v &&& ~~~sourceBit k).getLsbD j = (v.getLsbD j && decide (j ≠ k)) := by
  rw [BitVec.getLsbD_and, BitVec.getLsbD_not, sourceBit, getLsbD_one_shiftLeft k hj]
  simp [hj]

theorem sourceVector_toNat {k : Nat} (hk : k < 5) : (sourceVector k).toNat = 0x40 + 8 * k := by
  rw [sourceVector, BitVec.toNat_ofNat]
  omega

/-- Settles O50: the selection is `leastSource` of IE and IF, and clears the bit of its source. -/
theorem leastSourceIsSelected : Obligations.LeastSourceIsSelected := by
  intro s
  rw [selectSource_eq_leastSource]
  refine ⟨fun k => leastSource_eq_some, leastSource_eq_none, fun hnone => ?_, fun k hk => ?_⟩
  · rw [State.selectAndClear, selectSource_eq_leastSource, hnone]
  · obtain ⟨hk5, -⟩ := leastSource_eq_some.1 hk
    rw [State.selectAndClear_of_selected ((selectSource_eq_leastSource s).trans hk)]
    exact ⟨sourceVector_toNat hk5, fun j hj => getLsbD_clearSource s.ifr k hj, rfl⟩

/-! ### Adding and cancelling events -/

/-- With an event pending, nextEventTick is the due tick of one, and no event is due before it (rule R144). -/
theorem State.nextEventTick_of_pending {s : State} (h : s.events ≠ []) :
    ∃ n, s.nextEventTick = some n ∧ (∃ e ∈ s.events, e.dueTick = n) ∧ ∀ e ∈ s.events, n ≤ e.dueTick := by
  obtain ⟨n, hn⟩ := Option.ne_none_iff_exists'.1 (mt leastDue_eq_none.1 h)
  exact ⟨n, hn, leastDue_mem hn, leastDue_le hn⟩

theorem State.mem_cancelEventsById {s : State} {i : EventId} {e : Event} :
    e ∈ (s.cancelEventsById i).events ↔ e ∈ s.events ∧ e.id ≠ i := by
  simp

theorem State.cancelEventsById_idem (s : State) (i : EventId) :
    (s.cancelEventsById i).cancelEventsById i = s.cancelEventsById i := by
  simp [State.cancelEventsById]

/-- Settles O55: the added event stands last, and nextEventTick is the least due tick of the list. -/
theorem addAndCancelEvents : Obligations.AddAndCancelEvents := by
  intro s i d cb
  refine ⟨fun hroom => ?_, fun hfull => State.addEventRelative_of_full hfull i d cb, rfl,
    fun _ => State.mem_cancelEventsById, s.cancelEventsById_idem i⟩
  have hadd := State.addEventRelative_of_room hroom i d cb
  refine ⟨hadd, ?_⟩
  have hpending : (s.addEventRelative i d cb).events ≠ [] := by rw [hadd]; simp
  obtain ⟨n, hn, ⟨e, he, hdue⟩, hle⟩ := State.nextEventTick_of_pending hpending
  rw [hadd] at he hle
  obtain ⟨hold, hnew⟩ := List.forall_mem_append.1 hle
  refine ⟨n, hn, hnew _ (List.mem_singleton_self _), hold, ?_⟩
  obtain he | he := List.mem_append.1 he
  · exact .inr ⟨e, he, hdue.symm⟩
  · rw [List.mem_singleton] at he
    exact .inl (by rw [← hdue, he])

/-! ### Popping an event -/

theorem State.popFirstEvent_of_empty {s : State} (h : s.events = []) :
    s.popFirstEvent = (none, s.raiseFatal .emptyHeapPop) := by
  rw [State.popFirstEvent, State.firstEvents_eq_nil.2 h]

theorem State.dueTick_le_of_mem_firstEvents {s : State} {e : Event} (he : e ∈ s.firstEvents) :
    ∀ f ∈ s.events, e.dueTick ≤ f.dueTick := by
  obtain ⟨-, hnext⟩ := State.mem_firstEvents.1 he
  exact leastDue_le hnext

/-- The number of an event among those of least due tick, as the environment's choice, makes it the one popped (rule
R1064). -/
theorem State.popFirstEvent_of_choice {s : State} {k : Nat} (hk : k < s.firstEvents.length) (ts : List Nat)
    (hties : s.env.ties = k :: ts) : s.popFirstEvent.1 = some s.firstEvents[k] := by
  unfold State.popFirstEvent
  split
  · rename_i h
    simp [h] at hk
  · rename_i e h
    have hk0 : k = 0 := by simpa [h] using hk
    simp [h, hk0]
  · rename_i e e' es h
    have hlt : k < es.length + 2 := by rwa [h] at hk
    have hdraw : s.drawTie.1 = k := by rw [State.drawTie, hties]
    simp [hdraw, Nat.mod_eq_of_lt hlt, h, hlt]

/-- Settles O56: the popped event is one of `firstEvents`, and the choice of each is its place among them. -/
theorem popTakesAnyLeastEvent : Obligations.PopTakesAnyLeastEvent := by
  intro s
  refine ⟨State.popFirstEvent_of_empty, fun hne => ?_, fun e he hle => ?_⟩
  · obtain ⟨hempty, -⟩ | ⟨e, he, ties, draws, hpop⟩ := s.popFirstEvent_cases
    · exact absurd hempty hne
    · exact ⟨e, ties, draws, hpop, (State.mem_firstEvents.1 he).1, State.dueTick_le_of_mem_firstEvents he⟩
  · have hfirst : e ∈ s.firstEvents := State.mem_firstEvents.2 ⟨he, State.nextEventTick_eq_some ⟨e, he, rfl⟩ hle⟩
    obtain ⟨k, hk, rfl⟩ := List.getElem_of_mem hfirst
    exact ⟨[k], State.popFirstEvent_of_choice (s := { s with env := { s.env with ties := [k] } }) hk [] rfl⟩

/-! ### The tick loop -/

/-- No act of the environment enters anything in the log. -/
theorem State.act_log (s : State) (x : EnvAct) : (s.act x).env.log = s.env.log := by
  cases x with
  | add i d t => exact congrArg Environment.log (s.addEventRelative_env i d (.env t))
  | poke a v => simp only [State.act]; split <;> rfl
  | _ => rfl

theorem State.applyActs_log (s : State) (xs : List EnvAct) : (s.applyActs xs).env.log = s.env.log :=
  State.applyActs_induction (R := fun s t => t.env.log = s.env.log) (fun _ => rfl) (fun h k => k.trans h)
    State.act_log xs s

theorem State.drawCallback_log (s : State) : s.drawCallback.2.env.log = s.env.log := by
  unfold State.drawCallback
  split <;> rfl

/-- A callback enters itself in the log, with its lateness (rule R1060). -/
theorem State.runCallback_log (s : State) (e : Event) :
    (s.runCallback e).env.log = .callback s.currentTick e.id (s.currentTick - e.dueTick) :: s.env.log := by
  unfold State.runCallback
  cases e.callback with
  | enableIme => rfl
  | env t =>
    simp only
    rw [State.applyActs_log, State.drawCallback_log]
    rfl

theorem State.runCallback_enableIme (s : State) {e : Event} (h : e.callback = .enableIme) :
    s.runCallback e = { s with ime := true, env := { s.env with log := (s.runCallback e).env.log } } := by
  simp [State.runCallback, h]

theorem State.runFirstEvent_of_pop {s t : State} {e : Event} (h : s.popFirstEvent = (some e, t)) :
    s.runFirstEvent = t.runCallback e := by
  rw [State.runFirstEvent, h]

/-- A pop touches neither the clock nor the log. -/
theorem State.popFirstEvent_frame {s t : State} {e : Event} (h : s.popFirstEvent = (some e, t)) :
    t.currentTick = s.currentTick ∧ t.env.log = s.env.log := by
  obtain ⟨-, hpop⟩ | ⟨f, -, ties, draws, hpop⟩ := s.popFirstEvent_cases <;> cases h.symm.trans hpop
  exact ⟨rfl, rfl⟩

theorem State.runFirstEvent_log {s t : State} {e : Event} (h : s.popFirstEvent = (some e, t)) :
    s.runFirstEvent.env.log = .callback s.currentTick e.id (s.currentTick - e.dueTick) :: s.env.log := by
  obtain ⟨hclock, hlog⟩ := State.popFirstEvent_frame h
  rw [State.runFirstEvent_of_pop h, State.runCallback_log, hclock, hlog]

theorem State.eventDue_eq_true {s : State} : s.eventDue = true ↔ ∃ e ∈ s.events, e.dueTick ≤ s.currentTick := by
  rw [← Bool.not_eq_false, State.eventDue_eq_false]
  simp

theorem State.ne_nil_of_eventDue {s : State} (h : s.eventDue = true) : s.events ≠ [] := by
  obtain ⟨e, he, -⟩ := State.eventDue_eq_true.1 h
  exact List.ne_nil_of_mem he

/-- Every pending event is at most l ticks late. -/
def State.LateAtMost (l : Nat) (s : State) : Prop := ∀ e ∈ s.events, s.currentTick - e.dueTick ≤ l

/-- The clock stands, and no pending event is later than before: an added event is due now or in the future (rules
R1060, R1061). -/
theorem lateAtMost_scheduler (l : Nat) :
    SchedulerRelation (fun s t => s.LateAtMost l → t.LateAtMost l) where
  refl _ h := h
  trans h k x := k (h x)
  act s x h := by
    cases x with
    | add i d t =>
      simp only [State.act, State.addEventRelative]
      split
      · exact h
      · refine List.forall_mem_append.2 ⟨h, fun e he => ?_⟩
        rw [List.mem_singleton] at he
        simp [he]
    | cancel i => exact fun e he => h e (List.mem_of_mem_filter he)
    | poke a v => simp only [State.act]; split <;> exact h
    | _ => exact h
  pop _ _ _ _ _ h := fun f hf => h f (List.mem_of_mem_erase hf)
  fail _ _ h := h
  observe _ _ h := h
  enableIme _ h := h
  draw _ _ h := h

/-- The log's entries of callbacks that ran at tick c, with their ids and lateness. -/
def callbackLog (c : Nat) (ran : List (EventId × Nat)) : List Observation := ran.map (fun r => .callback c r.1 r.2)

/-- The callbacks ran in the order of their due ticks: none later than the one before it. The newest stands first. -/
abbrev RanInOrder (ran : List (EventId × Nat)) : Prop := ran.Pairwise (fun later earlier => later.2 ≤ earlier.2)

/-- What the tick loop adds to the log (rules R1060, R1065): from a state where no event is later than l ticks, the
callbacks it ran, in order and none later than that. -/
theorem runDue_log (n : Nat) {s : State} {l : Nat} (h : s.LateAtMost l) :
    ∃ ran, (runDue n s).env.log = callbackLog s.currentTick ran ++ s.env.log ∧
      RanInOrder ran ∧ ∀ r ∈ ran, r.2 ≤ l := by
  induction n generalizing s l with
  | zero => exact ⟨[], rfl, .nil, List.forall_mem_nil _⟩
  | succ n ih =>
    rw [runDue]
    split
    · rename_i hdue
      obtain ⟨hempty, -⟩ | ⟨e, he, ties, draws, hpop⟩ := s.popFirstEvent_cases
      · exact absurd hempty (State.ne_nil_of_eventDue hdue)
      have hlog := State.runFirstEvent_log hpop
      have hclock : s.runFirstEvent.currentTick = s.currentTick := (sameClock_scheduler.runFirstEvent s).currentTick
      have hlate : s.currentTick - e.dueTick ≤ l := h e (State.mem_firstEvents.1 he).1
      simp only
      split
      · exact ⟨[(e.id, s.currentTick - e.dueTick)], hlog, List.pairwise_singleton _ _, by simpa using hlate⟩
      · have hfirst : s.LateAtMost (s.currentTick - e.dueTick) := fun f hf =>
          Nat.sub_le_sub_left (State.dueTick_le_of_mem_firstEvents he f hf) _
        have hnext := (lateAtMost_scheduler _).runFirstEvent s hfirst
        obtain ⟨ran, hran, horder, hle⟩ := ih hnext
        refine ⟨ran ++ [(e.id, s.currentTick - e.dueTick)], ?_, ?_, ?_⟩
        · rw [hran, hlog, hclock]
          simp [callbackLog]
        · refine List.pairwise_append.2 ⟨horder, List.pairwise_singleton _ _, fun r hr f hf => ?_⟩
          rw [List.mem_singleton] at hf
          exact hf ▸ hle r hr
        · refine List.forall_mem_append.2 ⟨fun r hr => (hle r hr).trans hlate, by simpa using hlate⟩
    · exact ⟨[], rfl, .nil, List.forall_mem_nil _⟩

/-- The clock after n ticks, before the loop. -/
def State.advance (s : State) (n : Nat) : State :=
  { s with currentTick := s.currentTick + n, ticksThisCall := s.ticksThisCall + n }

theorem State.tick_eq_runDue (s : State) (n : Nat) : s.tick n = runDue (s.advance n).dueFuel (s.advance n) := rfl

theorem State.lateAtMost_currentTick (s : State) : s.LateAtMost s.currentTick := fun _ _ => Nat.sub_le _ _

/-- The loop with an event due makes one round, and then is the loop again unless the round was fatal (rule R1060). -/
theorem State.tick_of_due {s : State} {n : Nat} (h : (s.advance n).eventDue = true) :
    s.tick n =
      if (s.advance n).runFirstEvent.broken then (s.advance n).runFirstEvent
      else (s.advance n).runFirstEvent.tick 0 := by
  have hfuel := State.runFirstEvent_dueFuel h
  obtain ⟨k, hk⟩ : ∃ k, (s.advance n).dueFuel = k + 1 := ⟨(s.advance n).dueFuel - 1, by omega⟩
  rw [State.tick_eq_runDue, hk, runDue, if_pos h]
  exact ite_congr rfl (fun _ => rfl) (fun _ => runDue_fuel (by omega) (Nat.le_refl _))

/-- Settles O57: `runDue_log` from a state in which no event can be later than its clock, and the rounds of the loop. -/
theorem callbacksFireInDueOrder : Obligations.CallbacksFireInDueOrder := by
  refine ⟨fun s n => ⟨?_, fun hlive => ?_⟩, fun s t e hpop => ⟨State.runFirstEvent_log hpop, fun hset => ?_⟩,
    fun s n => ⟨fun h => State.tick_of_notDue h, fun h => State.tick_of_due (State.eventDue_eq_true.2 h)⟩⟩
  · obtain ⟨ran, hlog, horder, -⟩ := runDue_log (s.advance n).dueFuel (s.advance n).lateAtMost_currentTick
    exact ⟨ran, hlog, horder⟩
  · have hfuture := s.tick_future n hlive
    rwa [s.tick_currentTick n] at hfuture
  · rw [State.runFirstEvent_of_pop hpop]
    exact t.runCallback_enableIme hset

end Sys2Proof.Machine

namespace Sys2Proof.Machine

open Sys2Proof.Forms

/-! ### The dispatch, stage by stage -/

theorem tickThen_broken {s : State} {n : Nat} (h : (s.tick n).broken = true) (k : State → Result) :
    tickThen n k s = .next (s.tick n) := by
  simp [tickThen, h]

@[simp] theorem State.tick_regs (s : State) (n : Nat) : (s.tick n).regs = s.regs := (s.tick_sameCore n).regs

/-- A push is one write, below the sp that the registers hold (rule R230). -/
theorem push8Then_of_regs {s : State} {g : Registers} (h : s.regs = g) (v : Byte) (k : State → Result) :
    push8Then v k s = writeThen (g.sp - 1) v k { s with regs := { g with sp := g.sp - 1 } } := by
  subst h
  rfl

/-- The vector of the selection, 0x0000 where there is none (rules R1020, R1033). -/
def chosenVector : Option Nat → Word
  | some k => sourceVector k
  | none => 0x0000#16

/-- IF with the request bit of the selection cleared (rule R1030). -/
def clearChosen (f : Byte) : Option Nat → Byte
  | some k => f &&& ~~~sourceBit k
  | none => f

theorem State.selectAndClear_eq (s : State) :
    s.selectAndClear =
      (chosenVector (leastSource s.ie s.ifr), { s with ifr := clearChosen s.ifr (leastSource s.ie s.ifr) }) := by
  rw [State.selectAndClear, selectSource_eq_leastSource]
  cases leastSource s.ie s.ifr <;> rfl

/-- A dispatch from its selection on, from halt or not (rules R1030, R1033). -/
def selectAndFinishFrom (fromHalt : Bool) (ret : Word) (s : State) : Result :=
  tickThen (if fromHalt then 4 else 2) (finishDispatch ret s.selectAndClear.1) s.selectAndClear.2

/-- A dispatch after its first push, from halt or not (rule R1030). -/
def waitAndSelect (fromHalt : Bool) (ret : Word) (s : State) : Result :=
  if fromHalt then selectAndFinishFrom fromHalt ret s else tickThen 2 (selectAndFinishFrom fromHalt ret) s

theorem dispatchInterrupt_stages (fromHalt : Bool) (s : State) :
    dispatchInterrupt fromHalt s = tickThen 4 (push8Then s.regs.pc.hi (waitAndSelect fromHalt s.regs.pc)) s := rfl

/-- Settles O51: what is left of the dispatch at each stage, which ends in a fatal condition or goes on. -/
theorem dispatchSequence : Obligations.DispatchSequence := by
  intro fromHalt s t1 t2 t3 k vector t4 t5 t6 t7
  have hsp : s.regs.sp - 1 - 1 = s.regs.sp - 2 := by bv_omega
  have hregs3 : t3.regs = { s.regs with sp := s.regs.sp - 1 } := by
    simp only [t3]
    split <;> simp [t2]
  have hselect : t3.selectAndClear = (vector, t4) := by
    rw [t3.selectAndClear_eq]
    simp only [vector, t4, k]
    cases leastSource t3.ie t3.ifr <;> rfl
  have hregs5 : t5.regs = { s.regs with sp := s.regs.sp - 1 } := by
    simp only [t5, State.tick_regs, t4]
    cases k <;> exact hregs3
  have hregs7 : t7.regs = { s.regs with sp := s.regs.sp - 2 } := by simp [t7, t6]
  have stage1 : dispatchInterrupt fromHalt s =
      if t1.broken then .next t1 else push8Then s.regs.pc.hi (waitAndSelect fromHalt s.regs.pc) t1 := rfl
  have stage2 : push8Then s.regs.pc.hi (waitAndSelect fromHalt s.regs.pc) t1 =
      if t2.broken then .next t2 else waitAndSelect fromHalt s.regs.pc t2 := push8Then_of_regs (s.tick_regs 4) _ _
  have stage3 (h2 : t2.broken = false) : waitAndSelect fromHalt s.regs.pc t2 =
      if t3.broken then .next t3 else selectAndFinishFrom fromHalt s.regs.pc t3 := by
    cases fromHalt with
    | true => exact (if_neg (Bool.eq_false_iff.1 h2)).symm
    | false => rfl
  have stage5 : selectAndFinishFrom fromHalt s.regs.pc t3 =
      if t5.broken then .next t5 else finishDispatch s.regs.pc vector t5 := by
    rw [selectAndFinishFrom, hselect]
    rfl
  have stage6 : finishDispatch s.regs.pc vector t5 =
      if t6.broken then .next t6 else tickThen 4 (fun t => .next (t.setPc vector)) t6 := by
    rw [finishDispatch, push8Then_of_regs (s := { t5 with ime := false }) hregs5, hsp]
    rfl
  have stage7 : tickThen 4 (fun t => .next (t.setPc vector)) t6 =
      if t7.broken then .next t7
      else .next { t7 with regs := { s.regs with sp := s.regs.sp - 2, pc := vector } } := by
    rw [tickThen, State.setPc, hregs7]
  clear_value t7 t6 t5 t4 vector k t3 t2 t1
  rw [stage1]
  refine ⟨fun h1 => if_pos h1, fun h1 => ?_⟩
  rw [h1, stage2]
  refine ⟨fun h2 => if_pos h2, fun h2 => ?_⟩
  rw [h2, stage3 h2]
  refine ⟨fun h3 => if_pos h3, fun h3 => ?_⟩
  rw [h3, stage5]
  refine ⟨fun h5 => if_pos h5, fun h5 => ?_⟩
  rw [h5, stage6]
  refine ⟨fun h6 => if_pos h6, fun h6 => ?_⟩
  rw [h6, stage7]
  exact ⟨fun h7 => if_pos h7, fun h7 => if_neg (Bool.eq_false_iff.1 h7)⟩

/-! ### The dispatch in quiet time, with its races -/

/-- A memory after a push at an address: IF and IE are not in it (rule R241). -/
def memAfter (m : Memory) (x : Word) (v : Byte) : Memory := if coreOwned x then m else m.write x.toNat v

section
variable {m : Memory} {x : Word} (v : Byte)

theorem wf_memAfter (x : Word) (h : Memory.wf m) : Memory.wf (memAfter m x v) := by
  unfold memAfter
  split
  · exact h
  · exact Memory.wf_write v x.isLt h

theorem read_memAfter_same (h : Memory.wf m) (hx : coreOwned x = false) : (memAfter m x v).read x.toNat = v := by
  rw [memAfter, hx]
  exact Memory.read_write_same _ _ _ h

theorem read_memAfter_ne {y : Word} (hy : y ≠ x) : (memAfter m x v).read y.toNat = m.read y.toNat := by
  unfold memAfter
  split
  · rfl
  · exact Memory.read_write_ne _ v (BitVec.toNat_ne.1 hy)

end

/-- A state whose selected source, if any, has been cleared (rule R1030). -/
def State.selected (s : State) : State := { s with ifr := clearChosen s.ifr (leastSource s.ie s.ifr) }

/-- A state whose IE and IF a push of v at x has reached (rule R241). -/
def State.afterPush (s : State) (x : Word) (v : Byte) : State := { s with ie := ieAfter s x v, ifr := ifAfter s x v }

section
variable {s : State} {n c : Nat} (h : s.Quiet n) {sp : Word} {m : Memory} {log : List Observation}
include h

theorem State.Quiet.afterPush (x : Word) (v : Byte) : (s.afterPush x v).Quiet n :=
  ⟨h.live, h.noReads, h.noWrites, h.notDue⟩

theorem State.Quiet.selected : s.selected.Quiet n := ⟨h.live, h.noReads, h.noWrites, h.notDue⟩

/-- A push in quiet time, wherever it goes (rules R211, R230, R241). -/
theorem push8Then_anywhere (hc : 4 + c ≤ n) (v : Byte) (k : State → Result) :
    push8Then v k (s.during c sp m log) =
      k ((s.afterPush (sp - 1) v).during (c + 4) (sp - 1) (memAfter m (sp - 1) v)
        (.write (s.currentTick + (c + 4)) (sp - 1) v :: log)) := by
  have hq : ((s.during c sp m log).setSp (sp - 1)).Quiet (0 + 4) := (h.during (by omega)).setSp _
  have hw := writeThen_quiet hq (sp - 1) v k
  rw [hq.memWrite] at hw
  exact hw

/-- The end of a dispatch in quiet time, from its second push on. -/
theorem finishDispatch_anywhere (hc : 8 + c ≤ n) (ret vector : Word) :
    finishDispatch ret vector (s.during c sp m log) = .next
      (((({ s with ime := false } : State).afterPush (sp - 1) ret.lo).during (c + 8) (sp - 1)
        (memAfter m (sp - 1) ret.lo) (.write (s.currentTick + (c + 4)) (sp - 1) ret.lo :: log)).setPc vector) := by
  have hq : ({ s with ime := false } : State).Quiet n := ⟨h.live, h.noReads, h.noWrites, h.notDue⟩
  calc finishDispatch ret vector (s.during c sp m log)
      = push8Then ret.lo (tickThen 4 (fun t => .next (t.setPc vector)))
          (({ s with ime := false } : State).during c sp m log) := rfl
    _ = _ := by rw [push8Then_anywhere hq (by omega), tickThen_during (hq.afterPush _ _) (by omega)]

/-- From halt or not, four ticks stand between the two pushes (rule R1030). -/
theorem waitAndSelect_during (hc : 4 + c ≤ n) (fromHalt : Bool) (ret : Word) :
    waitAndSelect fromHalt ret (s.during c sp m log) =
      finishDispatch ret (chosenVector (leastSource s.ie s.ifr)) (s.selected.during (c + 4) sp m log) := by
  have hselect : ∀ c, (s.during c sp m log).selectAndClear =
      (chosenVector (leastSource s.ie s.ifr), s.selected.during c sp m log) :=
    fun c => (s.during c sp m log).selectAndClear_eq
  cases fromHalt with
  | true =>
    rw [waitAndSelect, if_pos rfl, selectAndFinishFrom, hselect, if_pos rfl, tickThen_during h.selected (by omega)]
  | false =>
    rw [waitAndSelect, if_neg (by decide), tickThen_during h (by omega), selectAndFinishFrom, hselect,
      if_neg (by decide), tickThen_during h.selected (by omega)]

end

/-- The state a dispatch in quiet time answers (rules R1030, R1033). -/
def State.dispatched (s : State) : State :=
  let hiAt := s.regs.sp - 1
  let loAt := s.regs.sp - 2
  let t := s.afterPush hiAt s.regs.pc.hi
  let u : State := { t.selected with ime := false }
  ((u.afterPush loAt s.regs.pc.lo).during 20 loAt
    (memAfter (memAfter s.env.mem hiAt s.regs.pc.hi) loAt s.regs.pc.lo)
    (.write (s.currentTick + 16) loAt s.regs.pc.lo :: .write (s.currentTick + 8) hiAt s.regs.pc.hi :: s.env.log)).setPc
      (chosenVector (leastSource t.ie t.ifr))

theorem dispatchInterrupt_eq_dispatched {s : State} (h : s.Quiet 20) (fromHalt : Bool) :
    dispatchInterrupt fromHalt s = .next s.dispatched := by
  have hsp : s.regs.sp - 1 - 1 = s.regs.sp - 2 := by bv_omega
  have hstart : dispatchInterrupt fromHalt s = tickThen 4 (push8Then s.regs.pc.hi (waitAndSelect fromHalt s.regs.pc))
      (s.during 0 s.regs.sp s.env.mem s.env.log) := dispatchInterrupt_stages fromHalt s
  have hq := h.afterPush (s.regs.sp - 1) s.regs.pc.hi
  rw [hstart, tickThen_during h (by decide), push8Then_anywhere h (by decide), waitAndSelect_during hq (by decide),
    finishDispatch_anywhere hq.selected (by decide), hsp]
  rfl

/-- Settles O52: `State.dispatched`, field by field; the two pushes go to different addresses. -/
theorem dispatchInQuietTime : Obligations.DispatchInQuietTime := by
  intro fromHalt s h hm hiAt loAt ie1 if1 k if2
  have hne : hiAt ≠ loAt := by simp only [hiAt, loAt]; bv_omega
  have hvector : chosenVector k = match k with
      | some k => BitVec.ofNat 16 (0x40 + 8 * k)
      | none => 0x0000#16 := by cases k <;> rfl
  have hclear : clearChosen if1 k = if2 := by
    simp only [if2]
    cases k <;> rfl
  have hmem := wf_memAfter s.regs.pc.hi hiAt hm
  refine ⟨s.dispatched, dispatchInterrupt_eq_dispatched h fromHalt, ?_, rfl, rfl, h.live, rfl, rfl, rfl, rfl, rfl, rfl,
    rfl, ?_, fun hx => ?_, fun hx => ?_, fun x hx hxhi hxlo => ?_, rfl⟩
  · exact congrArg (fun v => { s.regs with sp := loAt, pc := v }) hvector
  · exact congrArg (fun f => if loAt = 0xFF0F#16 then s.regs.pc.lo ||| 0xE0#8 else f) hclear
  · rw [peek_env hx]
    exact (read_memAfter_ne _ hne).trans (read_memAfter_same _ hm hx)
  · rw [peek_env hx]
    exact read_memAfter_same _ hmem hx
  · rw [peek_env hx, peek_env hx]
    exact (read_memAfter_ne _ hxlo).trans (read_memAfter_ne _ hxhi)

end Sys2Proof.Machine

namespace Sys2Proof.Machine

open Sys2Proof.Forms

/-! ### The scheduler never pops an empty heap -/

/-- The recorded reason, if any, is not EmptyHeapPop (rule R1005). -/
def State.NoEmptyPop (s : State) : Prop := s.brokenReason ≠ some .emptyHeapPop

theorem State.NoEmptyPop.addEventRelative {s : State} (h : s.NoEmptyPop) (i : EventId) (d : Nat) (c : Callback) :
    (s.addEventRelative i d c).NoEmptyPop := by
  unfold State.addEventRelative
  split
  · exact nofun
  · exact h

theorem State.NoEmptyPop.act {s : State} (h : s.NoEmptyPop) (x : EnvAct) : (s.act x).NoEmptyPop := by
  cases x with
  | add i d t => exact h.addEventRelative i d (.env t)
  | poke a v => simp only [State.act]; split <;> exact h
  | _ => exact h

/-- Rescheduling can be fatal only by the capacity (rules R1003, R1080). -/
theorem State.NoEmptyPop.rescheduleAll {s : State} (h : s.NoEmptyPop) (late : Nat) (es : List Event) :
    (s.rescheduleAll late es).NoEmptyPop := by
  refine State.rescheduleAll_induction (R := fun s t => s.NoEmptyPop → t.NoEmptyPop) (fun _ h => h)
    (fun h k x => k (h x)) late (fun s e h => ?_) es s h
  have hcancel : (s.cancelEventsById e.id).NoEmptyPop := h
  exact hcancel.addEventRelative _ _ _

theorem State.NoEmptyPop.accumulate {s : State} (h : s.NoEmptyPop) (op : AluOp) (v : Byte) :
    (s.accumulate op v).NoEmptyPop := by
  unfold State.accumulate
  simp only
  split <;> exact h

theorem State.NoEmptyPop.applyActs {s : State} (h : s.NoEmptyPop) (xs : List EnvAct) : (s.applyActs xs).NoEmptyPop :=
  State.applyActs_induction (R := fun s t => s.NoEmptyPop → t.NoEmptyPop) (fun _ h => h) (fun h k x => k (h x))
    (fun _ x h => h.act x) xs s h

theorem State.NoEmptyPop.runCallback {s : State} (h : s.NoEmptyPop) (e : Event) : (s.runCallback e).NoEmptyPop := by
  unfold State.runCallback
  cases e.callback with
  | enableIme => exact h
  | env t =>
    refine State.NoEmptyPop.applyActs ?_ _
    unfold State.drawCallback
    split <;> exact h

/-- A round with an event due pops that event or another: the scheduler is not empty (rule R1060). -/
theorem State.NoEmptyPop.runFirstEvent {s : State} (h : s.NoEmptyPop) (hdue : s.eventDue = true) :
    s.runFirstEvent.NoEmptyPop := by
  obtain ⟨hempty, -⟩ | ⟨e, -, ties, draws, hpop⟩ := s.popFirstEvent_cases
  · exact absurd hempty (State.ne_nil_of_eventDue hdue)
  · rw [State.runFirstEvent_of_pop hpop]
    refine State.NoEmptyPop.runCallback ?_ e
    exact h

theorem State.NoEmptyPop.runDue (n : Nat) {s : State} (h : s.NoEmptyPop) : (runDue n s).NoEmptyPop := by
  induction n generalizing s with
  | zero => exact h
  | succ n ih =>
    rw [Machine.runDue]
    split
    · have hround := h.runFirstEvent ‹_›
      simp only
      split
      · exact hround
      · exact ih hround
    · exact h

theorem State.NoEmptyPop.tick {s : State} (h : s.NoEmptyPop) (n : Nat) : (s.tick n).NoEmptyPop :=
  State.NoEmptyPop.runDue _ (s := s.advance n) h

theorem State.NoEmptyPop.memRead {s : State} (h : s.NoEmptyPop) (x : Word) : (s.memRead x).2.NoEmptyPop := by
  rw [State.NoEmptyPop, (s.memRead_sameSchedule x).brokenReason]
  exact h.tick 4

theorem State.NoEmptyPop.envWrite {s : State} (h : s.NoEmptyPop) (x : Word) (v : Byte) :
    (s.envWrite x v).NoEmptyPop := by
  unfold State.envWrite
  split
  · exact h
  · refine State.NoEmptyPop.applyActs ?_ _
    exact h

theorem State.NoEmptyPop.busWrite {s : State} (h : s.NoEmptyPop) (x : Word) (v : Byte) :
    (s.busWrite x v).NoEmptyPop := by
  unfold State.busWrite
  simp only
  split
  · exact h
  · split
    · exact h
    · refine State.NoEmptyPop.envWrite ?_ x v
      exact h

theorem State.NoEmptyPop.memWrite {s : State} (h : s.NoEmptyPop) (x : Word) (v : Byte) :
    (s.memWrite x v).NoEmptyPop := by
  cases hb : (s.tick 4).broken with
  | true => rw [State.memWrite_of_broken hb]; exact h.tick 4
  | false => rw [State.memWrite_of_live hb]; exact (h.tick 4).busWrite x v

theorem noEmptyPop_op : OpInvariant State.NoEmptyPop State.NoEmptyPop where
  final h := h
  tick n h := h.tick n
  read x h := h.memRead x
  write x v h := h.memWrite x v
  regs _ h := h
  ime _ h := h
  clear _ _ h := h

/-- If an answer is a next state, no empty heap was popped on the way to it. -/
abbrev Result.NoEmptyPop (r : Result) : Prop := r.Ends (Carries State.NoEmptyPop State.NoEmptyPop)

/-! ### No instruction pops an empty heap -/

section
variable {s : State} (h : s.NoEmptyPop)
include h

theorem haltCpu_noEmptyPop : (haltCpu s).NoEmptyPop :=
  noEmptyPop_op.haltCpu (fun _ h => h) (fun _ h => h) (fun _ => nofun) h

theorem stopCpu_noEmptyPop : (stopCpu s).NoEmptyPop := by
  refine Result.ends_iff.2 (fun t ht => noEmptyPop_op.carries ?_)
  obtain ⟨es, ⟨-, rfl⟩ | ⟨-, rfl⟩⟩ := stopCpu_next ht <;> exact h.rescheduleAll 0 es

theorem aluHl_noEmptyPop (op : AluOp) : (aluHl op s).NoEmptyPop :=
  noEmptyPop_op.readThen h _ (fun _ _ ht => noEmptyPop_op.carries (ht.accumulate op _))

theorem loadFrom_noEmptyPop (x : Word) (r : Reg8) : (loadFrom x r s).NoEmptyPop :=
  noEmptyPop_op.readThen h _ (fun _ _ ht => noEmptyPop_op.carries ht)

theorem loadAccStep_noEmptyPop (d : Word) : (loadAccStep d s).NoEmptyPop :=
  noEmptyPop_op.readThen h _ (fun _ _ ht => noEmptyPop_op.carries ht)

theorem store_noEmptyPop (x : Word) (v : Byte) : (writeThen x v .next s).NoEmptyPop :=
  noEmptyPop_op.writeThen h _ _ (fun _ ht => noEmptyPop_op.carries ht)

theorem storeAccStep_noEmptyPop (d : Word) : (storeAccStep d s).NoEmptyPop :=
  noEmptyPop_op.writeThen h _ _ (fun _ ht => noEmptyPop_op.carries ht)

theorem storeSp_noEmptyPop (n16 : Word) : (storeSp n16 s).NoEmptyPop :=
  noEmptyPop_op.writeThen h _ _ (fun _ ht => store_noEmptyPop ht _ _)

theorem modifyHl_noEmptyPop (op : Byte → Flags → Alu8) : (modifyHl op s).NoEmptyPop :=
  noEmptyPop_op.readThen h _ (fun _ _ ht => noEmptyPop_op.writeThen ht _ _ (fun _ hu => noEmptyPop_op.carries hu))

theorem readWriteOperand_noEmptyPop (z : CbOperand) (result : Byte → State → Byte) {k : Byte → State → State → Result}
    (hk : ∀ v t u, u.NoEmptyPop → (k v t u).NoEmptyPop) :
    (readOperandThen z (fun v t => writeOperandThen z (result v t) (k v t) t) s).NoEmptyPop :=
  noEmptyPop_op.readOperandThen h z (fun v t ht => noEmptyPop_op.writeOperandThen ht z _ (hk v t))

theorem rotOperand_noEmptyPop (op : RotOp) (z : CbOperand) : (rotOperand op z s).NoEmptyPop :=
  readWriteOperand_noEmptyPop h z _ (fun _ _ _ hu => noEmptyPop_op.carries hu)

theorem bitOperand_noEmptyPop (b : Nat) (z : CbOperand) : (bitOperand b z s).NoEmptyPop :=
  noEmptyPop_op.readOperandThen h z (fun _ _ ht => noEmptyPop_op.carries ht)

theorem resOperand_noEmptyPop (b : Nat) (z : CbOperand) : (resOperand b z s).NoEmptyPop :=
  readWriteOperand_noEmptyPop h z _ (fun _ _ _ hu => noEmptyPop_op.carries hu)

theorem setOperand_noEmptyPop (b : Nat) (z : CbOperand) : (setOperand b z s).NoEmptyPop :=
  readWriteOperand_noEmptyPop h z _ (fun _ _ _ hu => noEmptyPop_op.carries hu)

theorem runSecondary_noEmptyPop (op2 : Byte) : (runSecondary op2 s).NoEmptyPop := by
  unfold runSecondary
  simp only
  split
  · exact rotOperand_noEmptyPop h _ _
  · exact bitOperand_noEmptyPop h _ _
  · exact resOperand_noEmptyPop h _ _
  · exact setOperand_noEmptyPop h _ _

theorem pushPair_noEmptyPop (r : StackPair) : (pushPair r s).NoEmptyPop :=
  noEmptyPop_op.push16Then (s := s.internal) h _ (fun _ ht => noEmptyPop_op.carries ht)

theorem popPair_noEmptyPop (r : StackPair) : (popPair r s).NoEmptyPop :=
  noEmptyPop_op.pop16Then h (fun _ _ ht => noEmptyPop_op.carries (by cases r <;> exact ht))

theorem call_noEmptyPop (n16 : Word) : (call n16 s).NoEmptyPop :=
  noEmptyPop_op.push16Then (s := s.internal) h _ (fun _ ht => noEmptyPop_op.carries ht)

theorem callIf_noEmptyPop (cc : Cond) (n16 : Word) : (callIf cc n16 s).NoEmptyPop := by
  unfold callIf
  split
  · exact call_noEmptyPop h n16
  · exact noEmptyPop_op.carries h

theorem ret_noEmptyPop : (ret s).NoEmptyPop :=
  noEmptyPop_op.pop16Then h (fun _ _ ht => noEmptyPop_op.carries ht)

theorem retIf_noEmptyPop (cc : Cond) : (retIf cc s).NoEmptyPop := by
  unfold retIf
  split
  · exact ret_noEmptyPop (s := s.internal) h
  · exact noEmptyPop_op.carries h

theorem returnFromInterrupt_noEmptyPop : (returnFromInterrupt s).NoEmptyPop :=
  noEmptyPop_op.pop16Then h (fun _ _ ht => noEmptyPop_op.carries ht)

theorem jumpIf_noEmptyPop (cc : Cond) (n16 : Word) : (jumpIf cc n16 s).NoEmptyPop := by
  unfold jumpIf
  split <;> exact noEmptyPop_op.carries h

theorem jumpRelIf_noEmptyPop (cc : Cond) (e8 : Byte) : (jumpRelIf cc e8 s).NoEmptyPop := by
  unfold jumpRelIf
  split <;> exact noEmptyPop_op.carries h

/-- The instructions by their bus accesses: only those, EI, HALT and STOP reach the scheduler, and an illegal opcode
records its own reason. (PlainInvariant.exec does not serve here: it lets an illegal opcode record any reason.) -/
theorem exec_noEmptyPop (i : Instr) : Result.NoEmptyPop (exec i s) := by
  cases i
  case halt => exact haltCpu_noEmptyPop h
  case stop => exact stopCpu_noEmptyPop h
  case ei => exact noEmptyPop_op.carries (h.addEventRelative _ _ _)
  case illegalD3 | illegalDB | illegalDD | illegalE3 | illegalE4 | illegalEB | illegalEC | illegalED | illegalF4
      | illegalFC | illegalFD =>
    exact .inl ⟨rfl, nofun⟩
  case jpNzN16 | jpZN16 | jpNcN16 | jpCN16 => exact jumpIf_noEmptyPop h _ _
  case jrNzE8 | jrZE8 | jrNcE8 | jrCE8 => exact jumpRelIf_noEmptyPop h _ _
  case addAAtHl | adcAAtHl | subAAtHl | sbcAAtHl | andAAtHl | xorAAtHl | orAAtHl | cpAAtHl => exact aluHl_noEmptyPop h _
  -- loads and stores
  case ldBAtHl | ldCAtHl | ldDAtHl | ldEAtHl | ldHAtHl | ldLAtHl | ldAAtHl | ldAAtBc | ldAAtDe | ldAAtN16 | ldhAAtN8
      | ldhAAtC =>
    exact loadFrom_noEmptyPop h _ _
  case ldAAtHlInc | ldAAtHlDec => exact loadAccStep_noEmptyPop h _
  case ldAtHlB | ldAtHlC | ldAtHlD | ldAtHlE | ldAtHlH | ldAtHlL | ldAtHlA | ldAtHlN8 | ldAtBcA | ldAtDeA | ldAtN16A
      | ldhAtN8A | ldhAtCA =>
    exact store_noEmptyPop h _ _
  case ldAtHlIncA | ldAtHlDecA => exact storeAccStep_noEmptyPop h _
  case ldAtN16Sp => exact storeSp_noEmptyPop h _
  case incAtHl => exact modifyHl_noEmptyPop h inc8
  case decAtHl => exact modifyHl_noEmptyPop h dec8
  -- the stack
  case pushBc | pushDe | pushHl | pushAf => exact pushPair_noEmptyPop h _
  case popBc | popDe | popHl | popAf => exact popPair_noEmptyPop h _
  case callN16 | rst00 | rst08 | rst10 | rst18 | rst20 | rst28 | rst30 | rst38 => exact call_noEmptyPop h _
  case callNzN16 | callZN16 | callNcN16 | callCN16 => exact callIf_noEmptyPop h _ _
  case ret => exact ret_noEmptyPop h
  case retNz | retZ | retNc | retC => exact retIf_noEmptyPop h _
  case reti => exact returnFromInterrupt_noEmptyPop h
  -- PREFIX CB and the secondary table on [HL]
  case prefixCb op2 => exact runSecondary_noEmptyPop h op2
  case rlcAtHl | rrcAtHl | rlAtHl | rrAtHl | slaAtHl | sraAtHl | swapAtHl | srlAtHl =>
    exact rotOperand_noEmptyPop h _ .atHl
  case bit0AtHl | bit1AtHl | bit2AtHl | bit3AtHl | bit4AtHl | bit5AtHl | bit6AtHl | bit7AtHl =>
    exact bitOperand_noEmptyPop h _ .atHl
  case res0AtHl | res1AtHl | res2AtHl | res3AtHl | res4AtHl | res5AtHl | res6AtHl | res7AtHl =>
    exact resOperand_noEmptyPop h _ .atHl
  case set0AtHl | set1AtHl | set2AtHl | set3AtHl | set4AtHl | set5AtHl | set6AtHl | set7AtHl =>
    exact setOperand_noEmptyPop h _ .atHl
  -- every other instruction makes no bus access
  all_goals exact noEmptyPop_op.carries h

end

/-! ### No step pops an empty heap -/

theorem fetchInstrThen_noEmptyPop {s : State} (h : s.NoEmptyPop) {k : Instr → State → Result}
    (hk : ∀ i t, t.NoEmptyPop → (k i t).NoEmptyPop) : (fetchInstrThen k s).NoEmptyPop := by
  have fetch8 {t : State} (ht : t.NoEmptyPop) {k : Byte → State → Result}
      (hk : ∀ v u, u.NoEmptyPop → (k v u).NoEmptyPop) : (fetch8Then k t).NoEmptyPop :=
    noEmptyPop_op.readThen ht _ (fun v _ hu => hk v _ hu)
  unfold fetchInstrThen opcodeFetchThen
  refine noEmptyPop_op.readThen h _ (fun b0 t ht => ?_)
  have ha : t.afterOpcodeFetch.NoEmptyPop := by
    unfold State.afterOpcodeFetch
    split <;> exact ht
  simp only
  split
  · exact fetch8 ha (fun _ _ hu => fetch8 hu (fun _ _ hv => hk _ _ hv))
  · exact fetch8 ha (fun _ _ hu => hk _ _ hu)
  · exact hk _ _ ha

theorem completeStep_noEmptyPop {r : Result} (h : r.NoEmptyPop) : (completeStep r).NoEmptyPop := by
  cases r with
  | fault _ => trivial
  | refused _ => trivial
  | next s =>
    have hs : s.NoEmptyPop := noEmptyPop_op.ofCarries h
    unfold completeStep chargePendingThen
    simp only
    split
    · exact h
    · split
      · exact noEmptyPop_op.tickThen hs _ (fun _ ht => noEmptyPop_op.interruptCheck ht)
      · exact noEmptyPop_op.interruptCheck hs

/-- Settles O58: the fetch, the instruction and the end of the step keep `State.NoEmptyPop`. -/
theorem emptyHeapPopIsUnreachable : Obligations.EmptyHeapPopIsUnreachable := by
  intro s t hlive hnone ht
  have hstart : s.beginExecute.NoEmptyPop := by
    rw [State.NoEmptyPop, State.beginExecute_brokenReason, hnone]
    exact nofun
  rw [step_live hlive] at ht
  have hstep := fetchInstrThen_noEmptyPop hstart (fun i _ hu => completeStep_noEmptyPop (exec_noEmptyPop hu i))
  exact noEmptyPop_op.ofCarries (Result.ends_iff.1 hstep t ht)

end Sys2Proof.Machine

namespace Sys2Proof.Machine

open Sys2Proof.Forms

/-! ### The first fatal access of an instruction -/

/-- A fatal first write ends a push (rules R232, R1001). -/
theorem push16Then_broken_first {s : State} {w : Word} (h : (pushFirst s w).broken = true) (k : State → Result) :
    push16Then w k s = .next (pushFirst s w) :=
  writeThen_broken h _

theorem push16Then_broken_second {s : State} {w : Word} (h : (pushFirst s w).broken = false)
    (h' : (pushBoth s w).broken = true) (k : State → Result) : push16Then w k s = .next (pushBoth s w) :=
  (push16Then_of_first h k).trans (writeThen_broken h' k)

/-- A fatal first read ends a pop, before sp steps (rules R233, R1001). -/
theorem pop16Then_broken_first {s : State} (h : (popFirst s).2.broken = true) (k : Word → State → Result) :
    pop16Then k s = .next (popFirst s).2 := by
  rw [pop16Then, pop8Then]
  exact readThen_broken h _

theorem pop16Then_broken_second {s : State} (h : (popFirst s).2.broken = false) (h' : (popSecond s).2.broken = true)
    (k : Word → State → Result) : pop16Then k s = .next (popSecond s).2 := by
  calc pop16Then k s
      = pop8Then (fun hi => k (Word.ofBytes hi (popFirst s).1))
          ((popFirst s).2.setSp ((popFirst s).2.regs.sp + 1)) := by
        rw [pop16Then, pop8Then]
        exact readThen_live h _
    _ = pop8Then (fun hi => k (Word.ofBytes hi (popFirst s).1)) ((popFirst s).2.setSp (s.regs.sp + 1)) := by
        rw [popFirst_regs]
    _ = .next (popSecond s).2 := readThen_broken h' _

end Sys2Proof.Machine

namespace Sys2Proof.Forms

open Sys2Proof.Machine

section
variable {i : Instr} {s u a b : State} {x y : Word} {v w : Byte} {n : Nat}

/-- One access: the instruction ends there if it is fatal. -/
theorem EndsAtFirstBroken.one (h : a.broken = true → exec i s = .next a) : EndsAtFirstBroken i s [a] := by
  intro t ht
  have hb : t.broken = true := List.find?_some ht
  obtain rfl := List.mem_singleton.1 (List.mem_of_find?_eq_some ht)
  exact h hb

/-- Two accesses: the second counts only where the first is not fatal. -/
theorem EndsAtFirstBroken.two (ha : a.broken = true → exec i s = .next a)
    (hb : a.broken = false → b.broken = true → exec i s = .next b) : EndsAtFirstBroken i s [a, b] := by
  cases hlive : a.broken with
  | true =>
    intro t ht
    rw [List.find?_cons_of_pos hlive] at ht
    cases ht
    exact ha hlive
  | false =>
    intro t ht
    rw [List.find?_cons_of_neg (by simp [hlive])] at ht
    exact EndsAtFirstBroken.one (hb hlive) t ht

theorem EndsAtFirstBroken.of_read {k : Byte → State → Result} (h : exec i s = readThen x k s) :
    EndsAtFirstBroken i s [(s.memRead x).2] :=
  .one (fun hb => h.trans (readThen_broken hb k))

theorem EndsAtFirstBroken.of_write {k : State → Result} (h : exec i s = writeThen x v k s) :
    EndsAtFirstBroken i s [s.memWrite x v] :=
  .one (fun hb => h.trans (writeThen_broken hb k))

theorem EndsAtFirstBroken.of_writes {k : State → Result} (h : exec i s = writeThen x v (writeThen y w k) s) :
    EndsAtFirstBroken i s [s.memWrite x v, (s.memWrite x v).memWrite y w] :=
  .two (fun hb => h.trans (writeThen_broken hb _))
    (fun hlive hb => (h.trans (writeThen_live hlive _)).trans (writeThen_broken hb k))

theorem EndsAtFirstBroken.of_loadAccStep {d : Word} (h : exec i s = loadAccStep d s) :
    EndsAtFirstBroken i s [(s.memRead s.hl).2] :=
  .of_read (by rw [h, loadAccStep])

theorem EndsAtFirstBroken.of_storeAccStep {d : Word} (h : exec i s = storeAccStep d s) :
    EndsAtFirstBroken i s [s.memWrite s.hl s.regs.a] :=
  .of_write (by rw [h, storeAccStep])

/-- A read-modify-write at hl: the write goes to the hl of the read, which the read keeps. -/
theorem EndsAtFirstBroken.of_modify {value : Byte → State → Byte} {k : Byte → State → State → Result}
    (h : exec i s = readThen s.hl (fun v t => writeThen t.hl (value v t) (k v t) t) s)
    (hw : value (s.memRead s.hl).1 (s.memRead s.hl).2 = w) :
    EndsAtFirstBroken i s [(s.memRead s.hl).2, (s.memRead s.hl).2.memWrite s.hl w] := by
  refine .two (fun hb => h.trans (readThen_broken hb _)) (fun hlive hb => ?_)
  rw [h, readThen_live hlive, hw, State.memRead_hl]
  exact writeThen_broken hb _

theorem EndsAtFirstBroken.of_modifyHl {op : Byte → Flags → Alu8} (h : exec i s = modifyHl op s)
    (hw : ∀ v f, (op v f).value = BitVec.ofNat 8 (v.toNat + n)) :
    EndsAtFirstBroken i s [(s.memRead s.hl).2,
      (s.memRead s.hl).2.memWrite s.hl (BitVec.ofNat 8 ((s.memRead s.hl).1.toNat + n))] :=
  .of_modify (value := fun v t => (op v t.flags).value)
    (k := fun v t u => .next (u.setFlags (op v t.flags).flags)) h (hw _ _)

theorem EndsAtFirstBroken.of_push {k : State → Result} {d : Word} (h : exec i s = push16Then d k u) :
    EndsAtFirstBroken i s [pushFirst u d, pushBoth u d] :=
  .two (fun hb => h.trans (push16Then_broken_first hb k))
    (fun hlive hb => h.trans (push16Then_broken_second hlive hb k))

theorem EndsAtFirstBroken.of_pop {k : Word → State → Result} (h : exec i s = pop16Then k u) :
    EndsAtFirstBroken i s [(popFirst u).2, (popSecond u).2] :=
  .two (fun hb => h.trans (pop16Then_broken_first hb k))
    (fun hlive hb => h.trans (pop16Then_broken_second hlive hb k))

end

end Sys2Proof.Forms

namespace Sys2Proof.Machine

open Sys2Proof.Forms

/-! ### The bytes of read-modify-writes as numbers -/

section
variable (v : Byte) (f : Flags)

theorem inc8_value : (inc8 v f).value = BitVec.ofNat 8 (v.toNat + 1) := by rw [inc8_eq]

theorem dec8_value : (dec8 v f).value = BitVec.ofNat 8 (v.toNat + 255) := by rw [dec8_eq]

theorem rotFlags8_value (op : RotOp) (c : Bool) :
    (rotFlags8 op v c).value = BitVec.ofNat 8 (rotated op v.toNat c.toNat).1 := by rw [rotFlags8_eq_rotated]

/-- SET adds the weight of a clear bit, and changes nothing where the bit is set (rule R834). -/
theorem setBit_eq_ofNat (b : Nat) :
    setBit b v = BitVec.ofNat 8 (v.toNat + if v.getLsbD b then 0 else 2 ^ b) := by
  cases hbit : v.getLsbD b with
  | true =>
    have hsame : setBit b v = v := BitVec.eq_of_getLsbD_eq (fun k hk => by
      rw [getLsbD_setBit b v hk]
      by_cases hkb : k = b <;> simp [hkb, hbit])
    simp [hsame]
  | false =>
    have hdisjoint : v &&& BitVec.twoPow 8 b = 0#8 := by rw [BitVec.and_twoPow, hbit]; rfl
    rw [setBit, ← BitVec.twoPow_eq, ← BitVec.add_eq_or_of_and_eq_zero _ _ hdisjoint]
    exact BitVec.eq_of_toNat_eq (by simp)

/-- RES takes away the weight of a set bit, and changes nothing where the bit is clear (rule R832). -/
theorem resBit_eq_ofNat {b : Nat} (hb : b < 8) :
    resBit b v = BitVec.ofNat 8 (v.toNat - if v.getLsbD b then 2 ^ b else 0) := by
  cases hbit : v.getLsbD b with
  | true =>
    have hclear : (resBit b v).getLsbD b = false := by rw [getLsbD_resBit b v hb]; simp
    have hback : setBit b (resBit b v) = v := BitVec.eq_of_getLsbD_eq (fun k hk => by
      rw [getLsbD_setBit b _ hk, getLsbD_resBit b v hk]
      by_cases hkb : k = b <;> simp [hkb, hbit])
    have hsum := setBit_eq_ofNat (resBit b v) b
    rw [hback, hclear] at hsum
    have hle : 2 ^ b ≤ v.toNat := Nat.ge_two_pow_of_testBit hbit
    have htoNat := congrArg BitVec.toNat hsum
    rw [BitVec.toNat_ofNat, if_neg (by decide)] at htoNat
    have hlt := (resBit b v).isLt
    refine BitVec.eq_of_toNat_eq ?_
    rw [BitVec.toNat_ofNat, if_pos rfl]
    omega
  | false =>
    have hsame : resBit b v = v := BitVec.eq_of_getLsbD_eq (fun k hk => by
      rw [getLsbD_resBit b v hk]
      by_cases hkb : k = b <;> simp [hkb, hbit])
    simp [hsame]

end

theorem resForms_bit : ∀ f ∈ resForms, f.2.1 < 8 := by decide

/-- An accumulator operation on [HL] ends at its read, if that is fatal. -/
theorem aluForms_endsAtFirstBroken (n8 : Byte) (s : State) (op : AluOp) :
    ∀ f ∈ aluForms n8 op, f.2 = .atHl → EndsAtFirstBroken f.1 s [(s.memRead s.hl).2] := by
  intro f hf hz
  have hexec : exec f.1 s = aluSource op f.2 s := congrFun (aluForms_exec op n8 f hf) s
  rw [hz, aluSource, aluHl] at hexec
  exact .of_read hexec

/-- Settles O59: each form by its meaning's accesses. -/
theorem fatalConditionEndsTheStep : Obligations.FatalConditionEndsTheStep := by
  intro n8 n16 s hl r written u
  have hrot (op : RotOp) : (rotFlags8 op r.1 r.2.flags.c).value =
      BitVec.ofNat 8 (rotated op r.1.toNat s.flags.c.toNat).1 := by
    rw [rotFlags8_value, State.memRead_flags]
  refine ⟨fun f hf => .of_read (loadForms_exec n8 n16 s f hf), ?_, fun f hf hz => ?_, ?_,
    .of_modifyHl (congrFun incHl_eq_modifyHl s) inc8_value, .of_modifyHl (congrFun decHl_eq_modifyHl s) dec8_value,
    fun f hf hz => ?_, fun f hf hz => ?_, fun f hf hz => ?_,
    fun f hf => .of_write ((storeForms_exec n8 n16 s f hf).trans (writeThen_next _ _ _).symm), ?_,
    .of_writes (k := .next) rfl, fun f hf => ?_, fun f hf hyes => ?_,
    fun f hf => .of_pop (congrFun (popForms_exec f hf) s), fun f hf hyes => ?_, ?_,
    fun t => completeStep_of_broken⟩
  · have alu := aluForms_endsAtFirstBroken n8 s
    simp only [List.forall_mem_cons, List.not_mem_nil, false_implies, implies_true, and_true]
    exact ⟨alu .add, alu .adc, alu .sub, alu .sbc, alu .and, alu .xor, alu .or, alu .cp⟩
  · have hexec := congrFun (bitForms_exec f hf) s
    simp only [hz, bitOperand, readOperandThen] at hexec
    exact .of_read hexec
  · simp only [List.forall_mem_cons, List.not_mem_nil, false_implies, implies_true, and_true]
    exact ⟨.of_loadAccStep (d := 1) rfl, .of_loadAccStep (d := -1) rfl⟩
  · have hexec := congrFun (rotForms_exec f hf) s
    simp only [hz, rotOperand, readOperandThen, writeOperandThen] at hexec
    exact .of_modify hexec (hrot f.2.1)
  · have hexec := congrFun (resForms_exec f hf) s
    simp only [hz, resOperand, readOperandThen, writeOperandThen] at hexec
    exact .of_modify hexec (resBit_eq_ofNat _ (resForms_bit f hf))
  · have hexec := congrFun (setForms_exec f hf) s
    simp only [hz, setOperand, readOperandThen, writeOperandThen] at hexec
    exact .of_modify hexec (setBit_eq_ofNat _ _)
  · simp only [List.forall_mem_cons, List.not_mem_nil, false_implies, implies_true, and_true]
    exact ⟨.of_storeAccStep (d := 1) rfl, .of_storeAccStep (d := -1) rfl⟩
  · rw [pairWord_eq_stackPair]
    exact .of_push (congrFun (pushForms_exec f hf) s)
  · exact .of_push ((callForms_exec n16 s f hf).trans (if_pos hyes))
  · exact .of_pop ((retForms_exec s f hf).trans (if_pos hyes))
  · have hexec : exec .reti s = returnFromInterrupt s := rfl
    rw [returnFromInterrupt] at hexec
    exact .of_pop hexec

/-! ### A fatal fetch -/

theorem fetch8Then_broken {s : State} (h : (s.memRead s.regs.pc).2.broken = true) (k : Byte → State → Result) :
    fetch8Then k s = .next (s.memRead s.regs.pc).2 :=
  readThen_broken h _

theorem fetchInstrThen_broken {s : State} (h : (s.memRead s.regs.pc).2.broken = true) (k : Instr → State → Result) :
    fetchInstrThen k s = .next (s.memRead s.regs.pc).2 := by
  rw [fetchInstrThen, opcodeFetchThen, readThen_broken h]

/-- Settles O60: the reads one after another, up to the fatal one. -/
theorem fatalFetchEndsTheStep : Obligations.FatalFetchEndsTheStep := by
  intro s hb start r0 t0 r1 t1 r2 length
  have hstep : step s = fetchInstrThen runDecoded start := step_live hb
  have ht0 : r0.2.afterOpcodeFetch = t0 := start.afterOpcodeFetch_memRead s.regs.pc
  have hregs0 : { t0.regs with pc := t0.regs.pc + 1 } = { s.regs with pc := t0.regs.pc + 1 } := by
    simp only [t0, r0, start]
    split <;> simp
  have hticks0 : t0.ticksThisCall = 4 := by
    simp only [t0, r0, start]
    split <;> simp
  have hticks1 : r1.2.ticksThisCall = 8 := by rw [State.memRead_ticksThisCall, hticks0]
  have hlength : instrLength r0.1 = length := instrLength_eq_row r0.1 0x00#8
  refine ⟨fun h0 => ⟨hstep.trans (fetchInstrThen_broken h0 _), State.memRead_ticksThisCall _ _,
    State.memRead_regs _ _, State.memRead_haltBug _ _⟩, fun h0 => ⟨fun hlen h1 => ⟨?_, hticks1,
    State.memRead_regs _ _⟩, fun hlen h1 h2 => ⟨?_, ?_, State.memRead_regs _ _⟩⟩⟩
  · obtain hlen' | hlen' | hlen' := instrLength_cases r0.1
    · omega
    · rw [hstep, fetchInstrThen_two h0 _ hlen', ht0]
      exact fetch8Then_broken h1 _
    · rw [hstep, fetchInstrThen_three h0 _ hlen', ht0]
      exact fetch8Then_broken h1 _
  · have ht1 : { r1.2 with regs := { t0.regs with pc := t0.regs.pc + 1 } } = t1 :=
      congrArg (fun g => { r1.2 with regs := g }) hregs0
    rw [hstep, fetchInstrThen_three h0 _ (hlength.trans hlen), ht0, fetch8Then_live h1, ht1]
    exact fetch8Then_broken h2 _
  · rw [State.memRead_ticksThisCall, show t1.ticksThisCall = 8 from hticks1]

end Sys2Proof.Machine

/-! ## Reset and hazards: the clock across a step, the invariant at launch -/

namespace Sys2Proof.Machine

/-! ### The clock across a step -/

/-- What everything inside a step leaves: the launch parameters stand, and the two tick counters advance alike (rules
R134, R141). It is State.SpeedFrame without the speed mode, which STOP inverts, and the address of the fetch. -/
structure State.ClockFrame (s t : State) : Prop where
  params : t.params = s.params
  together : t.ticksThisCall + s.currentTick = s.ticksThisCall + t.currentTick

theorem State.ControlFrame.clockFrame {s t : State} (h : s.ControlFrame t) : s.ClockFrame t := ⟨h.params, h.together⟩

theorem State.ClockFrame.refl (s : State) : s.ClockFrame s := ⟨rfl, rfl⟩

theorem State.ClockFrame.trans {s t u : State} (h : s.ClockFrame t) (k : t.ClockFrame u) : s.ClockFrame u :=
  ⟨k.params.trans h.params, by have := h.together; have := k.together; omega⟩

theorem clockFrame_op (s : State) : OpInvariant s.ClockFrame s.ClockFrame where
  final h := h
  tick n h := h.trans (State.tick_controlFrame _ n).clockFrame
  read x h := h.trans (State.memRead_controlFrame _ x).clockFrame
  write x v h := h.trans (State.memWrite_controlFrame _ x v).clockFrame
  regs _ h := ⟨h.params, h.together⟩
  ime _ h := ⟨h.params, h.together⟩
  clear _ _ h := ⟨h.params, h.together⟩

theorem haltSkipThen_clockFrame {s t : State} (h : s.ClockFrame t) :
    (haltSkipThen .next t).Ends (Carries s.ClockFrame s.ClockFrame) := by
  have hloop := (clockFrame_op s).haltSkipLoop (s := { t with cpuMode := .halted })
    (fun hm => ⟨hm.params, hm.together⟩) t.params.haltSkipCap ⟨h.params, h.together⟩
  rcases hloop with ⟨hb, hf⟩ | ⟨hb, hm⟩
  · rw [haltSkipThen_broken rfl hb]
    exact .inl ⟨hb, hf⟩
  · rw [haltSkipThen_live rfl hb]
    exact .inr ⟨hb, hm.params, hm.together⟩

/-- STOP reschedules events and inverts the speed mode, without a tick (rules R915, R1080). -/
theorem stopCpu_clockFrame {s t : State} (h : stopCpu s = .next t) : s.ClockFrame t := by
  obtain ⟨es, ⟨-, rfl⟩ | ⟨-, rfl⟩⟩ := stopCpu_next h
  all_goals
    have hframe := (s.rescheduleAll_controlFrame 0 es).clockFrame
    exact ⟨hframe.params, hframe.together⟩

theorem clockFrame_exec (s : State) : ExecInvariant s.ClockFrame s.ClockFrame where
  toOpInvariant := clockFrame_op s
  flags _ h := ⟨h.params, h.together⟩
  pending _ h := ⟨h.params, h.together⟩
  haltBug _ h := ⟨h.params, h.together⟩
  fatal _ h := ⟨h.params, h.together⟩
  schedule i d c h := (clockFrame_op s).carries (h.trans (State.addEventRelative_controlFrame _ i d c).clockFrame)
  halt := haltSkipThen_clockFrame
  stop h := Result.ends_iff.2 (fun _ ht => (clockFrame_op s).carries (h.trans (stopCpu_clockFrame ht)))

/-- Settles O46: every part of a step keeps the clock frame, and a step begins with ticksThisCall at 0. -/
theorem stepReturnsItsTicks : Obligations.StepReturnsItsTicks := by
  intro s t ht
  have hframe := clockFrame_exec s.beginExecute
  obtain ⟨hparams, htogether⟩ := hframe.ofCarries (Result.ends_iff.1 (hframe.step (.refl _)) t ht)
  simp only [State.beginExecute_currentTick, State.beginExecute_ticksThisCall, State.beginExecute_params]
    at hparams htogether
  exact ⟨by omega, hparams⟩

/-! ### The invariant at launch -/

section
variable {p : Config.Params} {e : Environment} (hcap : 0 < p.haltSkipCap) (hmem : Memory.wf e.mem)
include hcap hmem

theorem State.init_sound (r : Registers) (f : Flags) : (State.init r f p e).Sound where
  ifHigh := show 0xE0#8 &&& Config.ifHighBits = Config.ifHighBits by decide
  memory := hmem
  capacity := Nat.zero_le _
  seqRising := .nil
  seqGiven := nofun
  cap := hcap
  reason := rfl
  notOverdue _ := nofun

theorem State.launch_sound (r : Registers) (f : Flags) (evs : List (EventId × Nat × Nat)) :
    (State.launch r f p e evs).Sound :=
  evs.foldlRecOn _ (State.init_sound hcap hmem r f) (fun _ h ev _ => h.addEventRelative ev.1 ev.2.1 (.env ev.2.2))

/-- A launch within the capacity leaves no pending tick and the CPU Running (O11). -/
theorem State.launch_inv (r : Registers) (f : Flags) {evs : List (EventId × Nat × Nat)} (hlen : evs.length ≤ 64) :
    (State.launch r f p e evs).Inv := by
  obtain ⟨-, -, -, -, -, hpending, -, hmode, -⟩ := resetValues.1 r f p e evs hlen
  exact ⟨State.launch_sound hcap hmem r f evs, fun _ => hpending, fun _ => hmode⟩

end

/-- Settles O10: the reset state is a launch with no initial event. -/
theorem resetHasTheInvariant : Obligations.ResetHasTheInvariant :=
  ⟨State.launch_inv (p := Config.defaultParams) (e := .idle) (by decide) (by decide) .dmgPostBoot .dmgPostBoot
      (evs := []) (Nat.zero_le _),
    fun r f _ _ _ hcap hmem hlen => State.launch_inv hcap hmem r f hlen⟩

end Sys2Proof.Machine
